-- ==== Sys2Proof/Word.lean ====
section
/-! DEFINITION. The values the machine handles: words, bytes, and the small enumerations the spec names (line levels and
modes, sequencer phases, line states, error kinds, code words, host accesses). Their numeric codes are in Sys2Proof.Decode. -/

namespace Sys2Proof

/-- A host register, the counter, an `Instant`: 32 bits (R8 `CNT_W`, `REG_W`; R20, R28). -/
abbrev Word := BitVec 32

/-- A byte of the frame buffer or of the Reading (R26, R27). -/
abbrev Byte := BitVec 8

/-- A level of the line (R102). -/
inductive Level where
  | low
  | high
deriving DecidableEq, Repr, Inhabited

/-- The electrical mode of the line (R21, R102). -/
inductive Mode where
  | input
  | output
deriving DecidableEq, Repr

/-- The values of `PHASE`, the sequencer's position (R23, R100). Codes 11 to 15 are never held, so they are no values. -/
inductive Phase where
  | idle
  | startLow
  | startHigh
  | respWait
  | respLow
  | respHigh
  | bitLow
  | bitDelay
  | bitHigh
  | validate
  | hostDelay
deriving DecidableEq, Repr

/-- The document's Line State (R22, R101), a function of `OWNED`, `MODE` and `OUT`. -/
inductive LineState where
  | idle
  | driveLow
  | driveHigh
  | input
deriving DecidableEq, Repr

/-- The error kinds of `STATUS.ERR` (R99, R240 to R244); `noError` is code 0, `None`. -/
inductive ErrorKind where
  | noError
  | noResponse
  | responseTimeout
  | bitTimeout
  | checksumError
  | rangeError
deriving DecidableEq, Repr

/-- An operation as bits, in one of the three formats: H, a host command word (R90); M, a Line Driver micro-operation
(R94); P, a phase code (R100). -/
inductive CodeWord where
  | h (w : BitVec 32)
  | m (w : BitVec 9)
  | p (w : BitVec 4)
deriving DecidableEq, Repr

/-- One access on the host port (R61): the tuple (`h_we`, `h_idx`, `h_wdata`) of R104. -/
inductive HostAccess where
  /-- `MemRead(idx, 4)`. -/
  | read (idx : BitVec 3)
  /-- `MemWrite(idx, 4, v)`. -/
  | write (idx : BitVec 3) (v : Word)
deriving DecidableEq, Repr

end Sys2Proof
end

