-- ==== Sys2Proof/Syntax.lean ====
section
/-! DEFINITION. The operation set of the block: one constructor per row of spec/opcode_table.json (R14). -/

namespace Sys2Proof

/-- The operations of the block (R14). The operand of a host command is the register `ARG` (R91), so no constructor of
format H carries one; the Line Driver operations carry the operand bit of format M (R94). -/
inductive Instr where
  /-- `S.INITIALIZE`, command 0x01 (R220). -/
  | sInitialize
  /-- `S.READ`, command 0x02 (R221). -/
  | sRead
  /-- `T.START`, command 0x10 (R131). -/
  | tStart
  /-- `T.ELAPSED_US`, command 0x11 (R132). -/
  | tElapsedUs
  /-- `T.DELAY_US`, command 0x12 (R133). -/
  | tDelayUs
  /-- `L.SET_MODE m`, micro-opcode 0x20 (R151). -/
  | lSetMode (m : Mode)
  /-- `L.WRITE v`, micro-opcode 0x21 (R152). -/
  | lWrite (v : Level)
  /-- `L.READ`, micro-opcode 0x22 (R153). -/
  | lRead
  /-- `P.IDLE`, phase 0 (R189). -/
  | pIdle
  /-- `P.START_LOW`, phase 1 (R173). -/
  | pStartLow
  /-- `P.START_HIGH`, phase 2 (R174). -/
  | pStartHigh
  /-- `P.RESP_WAIT`, phase 3 (R175). -/
  | pRespWait
  /-- `P.RESP_LOW`, phase 4 (R176). -/
  | pRespLow
  /-- `P.RESP_HIGH`, phase 5 (R177). -/
  | pRespHigh
  /-- `P.BIT_LOW`, phase 6 (R178). -/
  | pBitLow
  /-- `P.BIT_DELAY`, phase 7 (R179). -/
  | pBitDelay
  /-- `P.BIT_HIGH`, phase 8 (R181). -/
  | pBitHigh
  /-- `P.VALIDATE`, phase 9 (R182 to R184). -/
  | pValidate
  /-- `P.HOST_DELAY`, phase 10 (R137). -/
  | pHostDelay
deriving DecidableEq, Repr

end Sys2Proof
end

