-- ==== Sys2Proof/Decode.lean ====
section
/-! DEFINITION. The numeric codes of the spec's enumerations (R99 to R102), the decoder of the three formats (R90, R93,
R94, R100), total and rejecting by name, and after it the encoder. -/

namespace Sys2Proof

/-! ## Codes -/

/-- Levels: Low = 0, High = 1 (R102). -/
def Level.code : Level → BitVec 1
  | .low => 0
  | .high => 1

/-- Modes: Input = 0, Output = 1 (R102). -/
def Mode.code : Mode → BitVec 1
  | .input => 0
  | .output => 1

/-- The level of an operand bit (R94, R102). -/
def Level.ofBit (b : Bool) : Level := if b then .high else .low

/-- The mode of an operand bit (R94, R102). -/
def Mode.ofBit (b : Bool) : Mode := if b then .output else .input

/-- Phase codes (R100). -/
def Phase.code : Phase → BitVec 4
  | .idle => 0
  | .startLow => 1
  | .startHigh => 2
  | .respWait => 3
  | .respLow => 4
  | .respHigh => 5
  | .bitLow => 6
  | .bitDelay => 7
  | .bitHigh => 8
  | .validate => 9
  | .hostDelay => 10

/-- The phase of a code; codes 11 to 15 are reserved (R100). -/
def Phase.ofCode (c : BitVec 4) : Option Phase :=
  match c.toNat with
  | 0 => some .idle
  | 1 => some .startLow
  | 2 => some .startHigh
  | 3 => some .respWait
  | 4 => some .respLow
  | 5 => some .respHigh
  | 6 => some .bitLow
  | 7 => some .bitDelay
  | 8 => some .bitHigh
  | 9 => some .validate
  | 10 => some .hostDelay
  | _ => none

/-- Line State codes (R101). -/
def LineState.code : LineState → BitVec 2
  | .idle => 0
  | .driveLow => 1
  | .driveHigh => 2
  | .input => 3

/-- Error codes (R99). -/
def ErrorKind.code : ErrorKind → BitVec 3
  | .noError => 0
  | .noResponse => 1
  | .responseTimeout => 2
  | .bitTimeout => 3
  | .checksumError => 4
  | .rangeError => 5

/-! ## Decoding -/

/-- Why a code word stands for no operation. -/
inductive DecodeReject where
  /-- A command word with bits 31:8 not zero (R93). -/
  | upperBitsNotZero
  /-- A command word whose opcode is not in R92 (R93). -/
  | reservedOpcode
  /-- A format M word whose micro-opcode is not in R94. -/
  | reservedMicroOpcode
  /-- An `L.READ` word with its operand bit not 0 (R94). -/
  | operandBitNotZero
  /-- A phase code 11 to 15 (R100). -/
  | reservedPhase
deriving DecidableEq, Repr

/-- Format H (R90, R92, R93): the opcode in bits 7:0, bits 31:8 zero. -/
def decodeCommand (w : BitVec 32) : Except DecodeReject Instr :=
  if w.extractLsb' 8 24 = 0 then
    match (w.extractLsb' 0 8).toNat with
    | 0x01 => .ok .sInitialize
    | 0x02 => .ok .sRead
    | 0x10 => .ok .tStart
    | 0x11 => .ok .tElapsedUs
    | 0x12 => .ok .tDelayUs
    | _ => .error .reservedOpcode
  else .error .upperBitsNotZero

/-- Format M (R94): the micro-opcode in bits 8:1, the operand in bit 0. -/
def decodeMicro (w : BitVec 9) : Except DecodeReject Instr :=
  match (w.extractLsb' 1 8).toNat with
  | 0x20 => .ok (.lSetMode (Mode.ofBit (w.getLsbD 0)))
  | 0x21 => .ok (.lWrite (Level.ofBit (w.getLsbD 0)))
  | 0x22 => if w.getLsbD 0 then .error .operandBitNotZero else .ok .lRead
  | _ => .error .reservedMicroOpcode

/-- The operation of a phase (R100). -/
def Phase.instr : Phase → Instr
  | .idle => .pIdle
  | .startLow => .pStartLow
  | .startHigh => .pStartHigh
  | .respWait => .pRespWait
  | .respLow => .pRespLow
  | .respHigh => .pRespHigh
  | .bitLow => .pBitLow
  | .bitDelay => .pBitDelay
  | .bitHigh => .pBitHigh
  | .validate => .pValidate
  | .hostDelay => .pHostDelay

/-- Format P (R100). -/
def decodePhase (w : BitVec 4) : Except DecodeReject Instr :=
  match Phase.ofCode w with
  | some p => .ok p.instr
  | none => .error .reservedPhase

/-- The operation a code word stands for, or the name of the reason that it stands for none. -/
def decode : CodeWord → Except DecodeReject Instr
  | .h w => decodeCommand w
  | .m w => decodeMicro w
  | .p w => decodePhase w

/-- The code word whose bits are `w`, for a row of `nbits` bits: 32 for format H, 9 (two bytes: 16) for format M, 4 (one
byte: 8) for format P. No word where `w` has a bit outside the format. -/
def codeWordOf (nbits w : Nat) : Option CodeWord :=
  match nbits with
  | 32 => if w < 2 ^ 32 then some (.h (BitVec.ofNat 32 w)) else none
  | 9 => if w < 2 ^ 9 then some (.m (BitVec.ofNat 9 w)) else none
  | 16 => if w < 2 ^ 9 then some (.m (BitVec.ofNat 9 w)) else none
  | 4 => if w < 2 ^ 4 then some (.p (BitVec.ofNat 4 w)) else none
  | 8 => if w < 2 ^ 4 then some (.p (BitVec.ofNat 4 w)) else none
  | _ => none

/-- The instruction the decoder reads from an opcode-table row's bits. -/
def decodeTableWord (nbits w : Nat) : Option Instr :=
  match codeWordOf nbits w with
  | some c =>
    match decode c with
    | .ok i => some i
    | .error _ => none
  | none => none

/-! ## Encoding -/

/-- A format M word (R94): `micro` in bits 8:1, `operand` in bit 0. -/
def microWord (micro : BitVec 8) (operand : BitVec 1) : CodeWord := .m (micro ++ operand)

/-- The code word of an instruction (R92, R94, R100). -/
def encode : Instr → CodeWord
  | .sInitialize => .h 0x00000001
  | .sRead => .h 0x00000002
  | .tStart => .h 0x00000010
  | .tElapsedUs => .h 0x00000011
  | .tDelayUs => .h 0x00000012
  | .lSetMode m => microWord 0x20 m.code
  | .lWrite v => microWord 0x21 v.code
  | .lRead => microWord 0x22 0
  | .pIdle => .p Phase.idle.code
  | .pStartLow => .p Phase.startLow.code
  | .pStartHigh => .p Phase.startHigh.code
  | .pRespWait => .p Phase.respWait.code
  | .pRespLow => .p Phase.respLow.code
  | .pRespHigh => .p Phase.respHigh.code
  | .pBitLow => .p Phase.bitLow.code
  | .pBitDelay => .p Phase.bitDelay.code
  | .pBitHigh => .p Phase.bitHigh.code
  | .pValidate => .p Phase.validate.code
  | .pHostDelay => .p Phase.hostDelay.code

end Sys2Proof
end

