-- ==== Sys2Proof/Config.lean ====
section
/-! DEFINITION. What an implementation fixes when the block is built: the parameters the spec says a model takes as
arguments, as a record with the spec's defaults, the two sizes of R6 that the widths of the state rest on, and the free
functions that stand for the inputs from outside the block. -/

namespace Sys2Proof

/-- `N_BITS` (R6): bits in a frame. -/
abbrev Config.nBits : Nat := 40

/-- `N_BYTES` (R6): bytes in a frame. -/
abbrev Config.nBytes : Nat := 5

/-- The parameters the spec says a model should take as arguments (R7, R8, R291; 92_eei_decisions.md "Open parameters a
model takes as arguments"), with its defaults. A machine's parameters never change (R38, R70). DESIGN CHOICE (log 4):
they stand in State, so that a statement over every state is a statement over every choice of them. Unsafe only for a
claim that rests on the value 1 of `ticksPerUs` in State.reset. -/
structure Params where
  /-- `TICKS_PER_US`: counter ticks in a microsecond (R8, R10). -/
  ticksPerUs : Nat := 1
  /-- `T_START_LOW_US` (R7). -/
  startLowUs : Nat := 20000
  /-- `T_START_HIGH_US` (R7). -/
  startHighUs : Nat := 30
  /-- `T_TIMEOUT_US` (R6, R291): the one ceiling of every timeout-guarded wait, in poll delays of `T_POLL_US`. -/
  timeoutUs : Nat := 100
  /-- `T_POLL_US` (R6): the polling grain, in microseconds. -/
  pollUs : Nat := 1
  /-- `T_BIT_SAMPLE_US` (R6): from the end of a bit's leading low to its one sample, in microseconds. -/
  bitSampleUs : Nat := 40
  /-- `PRIMARY_MAX` (R6): the greatest valid primary integer byte. -/
  primaryMax : Nat := 100
  /-- `SECONDARY_MAX` (R6): the greatest valid secondary integer byte. -/
  secondaryMax : Nat := 85
deriving DecidableEq, Repr

/-- `us(n)`: the ticks of `n` microseconds (R10). -/
def Params.us (p : Params) (n : Nat) : Nat := n * p.ticksPerUs

/-! ## Free functions

Constants without a body: nothing can be proved of their values, so what is proved of a state that uses one holds for
every function. The first argument numbers the functions, so that two states can hold different ones; the second is the
instant. -/

/-- An unconstrained `SENSOR` (R11; log 1). -/
opaque Config.freeSensor : Nat → Nat → Level

/-- An unconstrained reset pin (R280; log 3). -/
opaque Config.freeReset : Nat → Nat → Bool

/-- An unconstrained host: at most one access an instant (R12, R61; log 2). -/
opaque Config.freeHost : Nat → Nat → Option HostAccess

end Sys2Proof
end

