-- ==== Sys2Proof/Machine/State.lean ====
section
/-! DEFINITION. The state of SWPD as plain data, the reasons a step can stop, and the machine right after reset. -/

namespace Sys2Proof.Machine

/-- The frame buffer's bytes as (address, byte) pairs in canonical form: addresses strictly rising and below 5, no
entry equal to 0, which is what an unlisted address reads as (R26, R40: all five bytes reset to 0; log 11). -/
abbrev Memory : Type := List Host.Cell

/-- A stretch of an input pin's waveform. -/
inductive Segment (α : Type) where
  /-- The value `v` for `ticks` ticks (R106). -/
  | hold (v : α) (ticks : Nat)
  /-- The value `v` for ever. -/
  | always (v : α)
  /-- From here for ever what the free function number `source` says, from its instant `start` on: any function of the
  instant at all (R11; log 1). -/
  | free (source start : Nat)
deriving DecidableEq, Repr

/-- The value of an input pin from this instant on; after the last segment the pin rests (R106). -/
abbrev Wave (α : Type) : Type := List (Segment α)

/-- The Reading (R27). -/
structure Reading where
  /-- `READING.PI`. -/
  pi : Byte
  /-- `READING.PF`. -/
  pf : Byte
  /-- `READING.SI`. -/
  si : Byte
  /-- `READING.SF`. -/
  sf : Byte
deriving DecidableEq, Repr

/-- One statement of a host program (R104) and the two loops of the pseudo-instructions of R105, each of which makes
one access in an instant and goes on by the value it read. -/
inductive HostStmt where
  /-- `RD idx`. -/
  | rd (idx : BitVec 3)
  /-- `WR idx, v`. -/
  | wr (idx : BitVec 3) (v : Word)
  /-- `IDLE n`. -/
  | idle (n : Nat)
  /-- `WAIT_IDLE`: `RD STATUS` until its bit 0 is 0. -/
  | waitIdle
  /-- The end of `READ_BLOCKING`: `RD STATUS`, and `RD READING` in the next instant if its bit 2 is 1. -/
  | readResult
  /-- From here for ever, in each instant, the access or none that the free function number `source` says, from its
  instant `start` on: any host at all (R12; log 2). -/
  | free (source start : Nat)
deriving DecidableEq, Repr

/-- Where in an instant the machine is (R13): the sequencer's first run and then the host access, or the sequencer's
second run and then the tick. -/
inductive Stage where
  | beforeHost
  | afterHost
deriving DecidableEq, Repr

/-- Why the machine stops. -/
inductive Fault where
  /-- Raised by `SHIFT` (R180) when `BITIDX div 8` is no byte of the frame buffer (R26: bytes 0 to 4). Safe: no state
  with `BITIDX < 40`, so no run from reset, raises it (log 11). -/
  | noSuchFrameByte (address : Nat)
deriving DecidableEq, Repr

/-- Why the machine refuses to go on. -/
inductive Refusal where
  /-- An instruction without a meaning; raised by no arm of this model. Safe. -/
  | notModelled (mnemonic : String)
  /-- Raised by `L.WRITE` with `MODE = Input`, which the spec says to refuse (R152, U1). Safe. -/
  | lineWriteInInputMode
  /-- Raised by `L.READ` with `MODE = Output`, which the spec says to refuse (R153, U2). Safe. -/
  | lineReadInOutputMode
  /-- Raised for an issued format M word that is no row of R94. Safe: the sequencer issues none (log 13). -/
  | unlistedMicroWord
  /-- Raised for an issued phase code 11 to 15, which `PHASE` never holds (R23, R100). Safe (log 13). -/
  | reservedPhaseCode
deriving DecidableEq, Repr

/-- The state. First the spec's own registers (10_state.md), then the read data of the host port, then the inputs from
outside the block, the build parameters, and the model's position inside an instant. -/
structure State where
  /-- `CNT`, the free-running counter (R20). -/
  cnt : Word
  /-- The time `t`: ticks since reset was released (R10). -/
  time : Nat
  /-- `OWNED`: a transaction owns the line (R21). -/
  owned : Bool
  /-- `MODE` (R21). -/
  mode : Mode
  /-- `OUT`, the output latch (R21). -/
  out : Level
  /-- `PHASE`, the sequencer's position (R23). -/
  phase : Phase
  /-- `BITIDX` (R24). -/
  bitidx : BitVec 6
  /-- `S`, the `Instant` of the current timed wait (R25). -/
  sReg : Word
  /-- `N`, poll delays completed in the current guarded wait (R25). -/
  nReg : BitVec 7
  /-- `DN`, the operand of a host delay in progress (R25). -/
  dnReg : Word
  /-- `FB[0..4]`, the frame buffer (R26). -/
  fb : Memory
  /-- `READING` (R27). -/
  reading : Reading
  /-- `DONE` (R29). -/
  doneFlag : Bool
  /-- `OK` (R29). -/
  okFlag : Bool
  /-- `INIT` (R29). -/
  initFlag : Bool
  /-- `CMDERR` (R29). -/
  cmderrFlag : Bool
  /-- `ERR` (R29, R99). -/
  err : ErrorKind
  /-- `ARG` (R28). -/
  arg : Word
  /-- `RESULT` (R28). -/
  result : Word
  /-- `HANDLE` (R28). -/
  handle : Word
  /-- `h_rdata`, in the instant in which a read is answered (R61; log 9). -/
  hrdata : Option Word
  /-- `SENSOR` from this instant on (R11, R106; log 1). -/
  sensor : Wave Level
  /-- The pin `rst` from this instant on (R279, R280; log 3). -/
  rst : Wave Bool
  /-- The host's remaining statements (R12, R104; log 2). -/
  hostProg : List HostStmt
  /-- The build parameters (R7, R8; log 4). No step changes them. -/
  params : Params
  /-- The block of `PHASE` has been begun: its wait is under way (log 5). -/
  begun : Bool
  /-- Where in the instant the machine is (R13; log 5). -/
  stage : Stage
  /-- A code word issued in this instant and not yet executed (log 6). -/
  issue : Option CodeWord
  /-- The level the last `L.READ` returned, the local `b` of R170 (log 7). -/
  sample : Level
deriving DecidableEq, Repr

/-- The machine right after reset: R40 and R280 for the spec's registers. The inputs (log 1, 2, 3), the parameters'
defaults (log 4) and the model's own fields (log 5, 6, 7) are as their log entries say. -/
def State.reset : State where
  cnt := 0
  time := 0
  owned := false
  mode := .input
  out := .high
  phase := .idle
  bitidx := 0
  sReg := 0
  nReg := 0
  dnReg := 0
  fb := []
  reading := { pi := 0, pf := 0, si := 0, sf := 0 }
  doneFlag := false
  okFlag := false
  initFlag := false
  cmderrFlag := false
  err := .noError
  arg := 0
  result := 0
  handle := 0
  hrdata := none
  sensor := []
  rst := []
  hostProg := []
  params := {}
  begun := false
  stage := .beforeHost
  issue := none
  sample := .low

end Sys2Proof.Machine
end

