-- ==== Sys2Proof/Machine/Operands.lean ====
section
/-! DEFINITION. The operand forms: the one operand of a host command (R91), the operand bits of format M (in
Sys2Proof.Decode), the frame buffer's address and bit of `SHIFT` (R180). -/

namespace Sys2Proof.Machine

/-- The handle operand of `S.INITIALIZE`: the whole of `ARG` (R91, R220). -/
def State.operandHandle (s : State) : Word := s.arg

/-- The `Instant` operand of `T.ELAPSED_US`: the whole of `ARG` (R91, R132). -/
def State.operandInstant (s : State) : Word := s.arg

/-- The microseconds operand of `T.DELAY_US`: the whole of `ARG`, unsigned (R91, R133). -/
def State.operandMicros (s : State) : Word := s.arg

/-- The address of the frame-buffer byte that the bit being received goes to: `BITIDX div 8` (R24, R180). -/
def State.frameAddress (s : State) : Nat := s.bitidx.toNat / 8

/-- The bit a sampled level stands for: High 1, Low 0 (R98, R179). -/
def Level.bit (l : Level) : BitVec 1 := l.code

/-- The byte after one bit is shifted in MSB-first: `((b << 1) | bit) & 0xFF` (R180). -/
def shiftIn (b : Byte) (bit : BitVec 1) : Byte := (b <<< 1) ||| bit.zeroExtend 8

/-- The recommended packing of `initialize(gpio_port, gpio_pin)` into the handle (R36, R105). -/
def packHandle (port pin : BitVec 8) : Word := (0 : BitVec 16) ++ port ++ pin

end Sys2Proof.Machine
end

