-- ==== Sys2Proof/Machine/Environment.lean ====
section
/-! DEFINITION. The inputs from outside the block: the waveforms of the pins `SENSOR` and `rst`, and the host's program
with the pseudo-instructions of R105. -/

namespace Sys2Proof.Machine

/-! ## Waveforms (R106) -/

/-- The value of a waveform `n` ticks from now (R106: the segment that contains the offset, from the sum of the earlier
durations, inclusive, to that sum plus its own, exclusive); `rest` after its last segment; `oracle` gives the free
functions. -/
def Wave.at {α : Type} (oracle : Nat → Nat → α) (rest : α) : Wave α → Nat → α
  | [], _ => rest
  | .hold v d :: w, n => if n < d then v else Wave.at oracle rest w (n - d)
  | .always v :: _, _ => v
  | .free source start :: _, n => oracle source (start + n)

/-- The waveform one tick later. -/
def Wave.later {α : Type} : Wave α → Wave α
  | [] => []
  | .hold _ 0 :: w => Wave.later w
  | .hold _ 1 :: w => w
  | .hold v (d + 2) :: w => .hold v (d + 1) :: w
  | .always v :: w => .always v :: w
  | .free source start :: w => .free source (start + 1) :: w

/-- `SENSOR` `n` ticks from now (R11): any function of `n`, by a free segment. After the last segment nobody drives the
line, and the pull holds it High (R106, R150). -/
def State.sensorAt (s : State) (n : Nat) : Level := Wave.at Config.freeSensor .high s.sensor n

/-- `SENSOR` at this instant (R11). -/
def State.sensorLevel (s : State) : Level := s.sensorAt 0

/-- `rst = 1` in this instant (R280). -/
def State.inReset (s : State) : Bool := Wave.at Config.freeReset false s.rst 0

/-! ## The sensor's nominal waveform (R9, R106)

Not used by any operation of the block; it says what a conforming sensor does on the line (log 16). -/

/-- `E_RESP_LOW_US` (R9). -/
def nominalRespLowUs : Nat := 80

/-- `E_RESP_HIGH_US` (R9). -/
def nominalRespHighUs : Nat := 80

/-- `E_BIT_LOW_US` (R9). -/
def nominalBitLowUs : Nat := 50

/-- The high phase of a bit: `E_BIT0_HIGH_US` taken as 27 (R106), `E_BIT1_HIGH_US` (R9). -/
def nominalBitHighUs (bit : Bool) : Nat := if bit then 70 else 27

/-- The sensor's reaction delay at the head of `FRAME` (R106, K2). PRESUMED by the spec (log 16), from general knowledge; the
block accepts 0 to 100. Safe: no rule of the block rests on it. -/
def nominalReactionUs : Nat := 20

/-- The Low at the tail of `FRAME` (R106, K3). PRESUMED by the spec, from general knowledge. Safe, as above. -/
def nominalTailUs : Nat := 50

/-- The bits of a byte in wire order, most significant first (R66, R96). -/
def wireBits (b : Byte) : List Bool := (List.range 8).map fun k => b.getLsbD (7 - k)

/-- The two segments of one bit on the wire (R97). -/
def bitWave (p : Params) (bit : Bool) : Wave Level :=
  [.hold .low (p.us nominalBitLowUs), .hold .high (p.us (nominalBitHighUs bit))]

/-- The segments of a frame's bits, in wire order (R95, R96). -/
def bitsWave (p : Params) (bits : List Bool) : Wave Level := bits.flatMap (bitWave p)

/-- `FRAME(b0, b1, b2, b3, b4)` from the release instant on (R106). -/
def frameWave (p : Params) (b0 b1 b2 b3 b4 : Byte) : Wave Level :=
  [.hold .high (p.us nominalReactionUs), .hold .low (p.us nominalRespLowUs), .hold .high (p.us nominalRespHighUs)]
    ++ bitsWave p (wireBits b0 ++ wireBits b1 ++ wireBits b2 ++ wireBits b3 ++ wireBits b4)
    ++ [.hold .low (p.us nominalTailUs)]

/-- The same from the instant `S.READ` is accepted on: High until the release instant (R106, R174). -/
def transactionWave (p : Params) (b0 b1 b2 b3 b4 : Byte) : Wave Level :=
  .hold .high (p.us (p.startLowUs + p.startHighUs)) :: frameWave p b0 b1 b2 b3 b4

/-! ## The host's program (R104, R105) -/

/-- Host register indices (R32 to R37, the table of 10_state.md section 6). -/
def idxCmd : BitVec 3 := 0

/-- Index of `ARG`. -/
def idxArg : BitVec 3 := 1

/-- Index of `STATUS`. -/
def idxStatus : BitVec 3 := 2

/-- Index of `READING`. -/
def idxReading : BitVec 3 := 3

/-- Index of `RESULT`. -/
def idxResult : BitVec 3 := 4

/-- Index of `CNT`. -/
def idxCnt : BitVec 3 := 5

/-- Index of `HANDLE`. -/
def idxHandle : BitVec 3 := 6

/-- The access the host presents in this instant, if any (R61: at most one). -/
def hostAccess : List HostStmt → Option HostAccess
  | [] => none
  | .rd i :: _ => some (.read i)
  | .wr i v :: _ => some (.write i v)
  | .idle 0 :: rest => hostAccess rest
  | .idle (_ + 1) :: _ => none
  | .waitIdle :: _ => some (.read idxStatus)
  | .readResult :: _ => some (.read idxStatus)
  | .free source start :: _ => Config.freeHost source start

/-- What is left of a host program after this instant, `v` being the value read in it. -/
def hostRest (v : Word) : List HostStmt → List HostStmt
  | [] => []
  | .rd _ :: rest => rest
  | .wr _ _ :: rest => rest
  | .idle 0 :: rest => hostRest v rest
  | .idle (n + 1) :: rest => .idle n :: rest
  | .waitIdle :: rest => if v.getLsbD 0 then .waitIdle :: rest else rest
  | .readResult :: rest => if v.getLsbD 2 then .rd idxReading :: rest else rest
  | .free source start :: rest => .free source (start + 1) :: rest

/-- `S.INITIALIZE port, pin` (R105). -/
def asmInitialize (port pin : BitVec 8) : List HostStmt := [.wr idxArg (packHandle port pin), .wr idxCmd 0x00000001]

/-- `S.READ` (R105). -/
def asmRead : List HostStmt := [.wr idxCmd 0x00000002]

/-- `T.START` (R105). -/
def asmStart : List HostStmt := [.wr idxCmd 0x00000010]

/-- `T.ELAPSED_US inst` (R105). -/
def asmElapsedUs (inst : Word) : List HostStmt := [.wr idxArg inst, .wr idxCmd 0x00000011]

/-- `T.DELAY_US n` (R105). -/
def asmDelayUs (n : Word) : List HostStmt := [.wr idxArg n, .wr idxCmd 0x00000012]

/-- `WAIT_IDLE` (R105). -/
def asmWaitIdle : List HostStmt := [.waitIdle]

/-- `READ_BLOCKING` (R105). -/
def asmReadBlocking : List HostStmt := asmRead ++ asmWaitIdle ++ [.readResult]

/-- `DELAY_BLOCKING n` (R105). -/
def asmDelayBlocking (n : Word) : List HostStmt := asmDelayUs n ++ asmWaitIdle

end Sys2Proof.Machine
end

