-- ==== Sys2Proof/Machine/Flags.lean ====
section
/-! DEFINITION. The flags and codes of R29, the words `STATUS` and `READING` read as (R32, R33), and the updates of the
flags that the operations share. -/

namespace Sys2Proof.Machine

/-- `BUSY = (PHASE ≠ Idle)` (R29). -/
def State.busy (s : State) : Bool := !decide (s.phase = .idle)

/-- `LSTATE` (R22). -/
def State.lstate (s : State) : LineState :=
  if s.owned then
    match s.mode, s.out with
    | .input, _ => .input
    | .output, .low => .driveLow
    | .output, .high => .driveHigh
  else .idle

/-- The `STATUS` word (R32), from bit 31 down: reserved 31:26, `LSTATE` 25:24, reserved 23:22, `BITIDX` 21:16, `PHASE`
15:12, reserved 11, `ERR` 10:8, reserved 7:5, `CMDERR`, `INIT`, `OK`, `DONE`, `BUSY`. -/
def State.status (s : State) : Word :=
  (0 : BitVec 6) ++ s.lstate.code ++ (0 : BitVec 2) ++ s.bitidx ++ s.phase.code ++ (0 : BitVec 1) ++ s.err.code
    ++ (0 : BitVec 3) ++ BitVec.ofBool s.cmderrFlag ++ BitVec.ofBool s.initFlag ++ BitVec.ofBool s.okFlag
    ++ BitVec.ofBool s.doneFlag ++ BitVec.ofBool s.busy

/-- The `READING` word (R33): `PI` in bits 7:0, `PF` 15:8, `SI` 23:16, `SF` 31:24. -/
def Reading.word (r : Reading) : Word := r.sf ++ r.si ++ r.pf ++ r.pi

/-- An accepted command: `CMDERR <- 0` (R228). -/
def acceptCommand (s : State) : State := { s with cmderrFlag := false }

/-- A refused command: `CMDERR <- 1` and nothing else (R222). -/
def refuseCommand (s : State) : State := { s with cmderrFlag := true }

/-- `DONE <- 0; OK <- 0; ERR <- 0` (R172). -/
def clearResult (s : State) : State := { s with doneFlag := false, okFlag := false, err := .noError }

/-- The result of a failure of kind `e`: `ERR <- code(e); OK <- 0; DONE <- 1` (R247). -/
def recordFailure (e : ErrorKind) (s : State) : State := { s with err := e, okFlag := false, doneFlag := true }

/-- The result of a success: `OK <- 1; ERR <- 0; DONE <- 1` (R184). -/
def recordSuccess (s : State) : State := { s with okFlag := true, err := .noError, doneFlag := true }

end Sys2Proof.Machine
end

