-- ==== Sys2Proof/Machine/Ops.lean ====
section
/-! DEFINITION. The named operations over the frame buffer, the counter, the line and the sequencer, that the meanings
share; among them the failure exit (R247), this block's taking of an exception. There is no return operation (R249). -/

namespace Sys2Proof.Machine

/-- What one operation answers. -/
abbrev Result : Type := Host.Outcome State Fault Refusal

/-- Go on with `k` from the next state; a stop stays the stop it is. -/
def andThen (r : Result) (k : State → Result) : Result :=
  match r with
  | .next s => k s
  | .fault f => .fault f
  | .refused q => .refused q

/-! ## Frame buffer (R26, R60) -/

/-- The byte at an address; an unlisted address reads as 0 (R26, R40). -/
def Memory.read : Memory → Nat → Byte
  | [], _ => 0#8
  | (k, b) :: m, a => if k = a then b else Memory.read m a

/-- Write one byte and keep the canonical form. -/
def Memory.write : Memory → Nat → Byte → Memory
  | [], a, v => if v = 0#8 then [] else [(a, v)]
  | (k, b) :: m, a, v =>
    if a < k then
      if v = 0#8 then (k, b) :: m else (a, v) :: (k, b) :: m
    else if a = k then
      if v = 0#8 then m else (k, v) :: m
    else (k, b) :: Memory.write m a v

/-- Canonical form from address `lo` on. -/
def Memory.wfFrom (lo : Nat) : Memory → Bool
  | [] => true
  | (k, b) :: m => decide (lo ≤ k) && decide (k < Config.nBytes) && !decide (b = 0#8) && Memory.wfFrom (k + 1) m

/-- The canonical form: addresses strictly rising and below 5, no byte equal to 0. -/
def Memory.wf (m : Memory) : Bool := Memory.wfFrom 0 m

/-- `FB[i]` (R26). -/
def State.frameByte (s : State) (i : Nat) : Byte := s.fb.read i

/-- `FB[a] <- v` (R60: byte addresses 0 to 4). -/
def storeFrameByte (a : Nat) (v : Byte) (s : State) : Result :=
  if a < Config.nBytes then .next { s with fb := s.fb.write a v } else .fault (.noSuchFrameByte a)

/-- `FB[0..4] <- 0; BITIDX <- 0` (R172). -/
def clearFrame (s : State) : State := { s with fb := [], bitidx := 0 }

/-- `SHIFT(b)` (R180). -/
def shiftBit (bit : BitVec 1) (s : State) : Result :=
  storeFrameByte s.frameAddress (shiftIn (s.frameByte s.frameAddress) bit) s

/-- `BITIDX <- BITIDX + 1` (R181). -/
def completeBit (s : State) : State := { s with bitidx := s.bitidx + 1 }

/-! ## Microsecond Timer (R130 to R136) -/

/-- `T.START()` as a primitive: a snapshot of `CNT` (R131). -/
def State.instant (s : State) : Word := s.cnt

/-- `T.ELAPSED_US(i)` as a primitive: `((CNT - i) mod 2^32) div TICKS_PER_US` (R132). -/
def State.elapsedUs (s : State) (i : Word) : Word := BitVec.ofNat 32 ((s.cnt - i).toNat / s.params.ticksPerUs)

/-- `T.ELAPSED_US(S) >= n`, the condition of every timed wait (R136). -/
def State.waited (s : State) (n : Nat) : Bool := decide (n ≤ (s.elapsedUs s.sReg).toNat)

/-! ## Line Driver (R150 to R153) -/

/-- `LINE(t)`: the block's level in Output mode, `SENSOR(t)` in Input mode (R150). -/
def State.line (s : State) : Level :=
  match s.mode with
  | .output => s.out
  | .input => s.sensorLevel

/-- Pin `line_o` (R150). -/
def State.lineO (s : State) : Level := s.out

/-- Pin `line_oe` (R150). -/
def State.lineOe (s : State) : Bool := decide (s.mode = .output)

/-- Pin `line_i` (R150). -/
def State.lineI (s : State) : Level := s.line

/-- `L.SET_MODE(m)` (R151). -/
def setMode (m : Mode) (s : State) : State := { s with mode := m }

/-- `L.WRITE(v)` (R152), refused in Input mode (U1). -/
def lineWrite (v : Level) (s : State) : Result :=
  match s.mode with
  | .output => .next { s with out := v }
  | .input => .refused .lineWriteInInputMode

/-- `L.READ()` (R153): the level returned stands in `sample` (log 7); refused in Output mode (U2). -/
def lineRead (s : State) : Result :=
  match s.mode with
  | .input => .next { s with sample := s.line }
  | .output => .refused .lineReadInOutputMode

/-- `OWNED <- 1` (R156). -/
def takeLine (s : State) : State := { s with owned := true }

/-- `OWNED <- 0` (R156). -/
def releaseLine (s : State) : State := { s with owned := false }

/-! ## The sequencer's position (R23, R170) -/

/-- Control passes to the start of the block of `p`. -/
def gotoPhase (p : Phase) (s : State) : State := { s with phase := p, begun := false }

/-- The block of `p` has been begun and its wait is under way. -/
def State.inside (s : State) (p : Phase) : Bool := s.begun && decide (s.phase = p)

/-- `PHASE <- p; S <- T.START()`: the start of a `delay` (R136) as the wait of phase `p`. -/
def beginDelay (p : Phase) (s : State) : State := { s with phase := p, begun := true, sReg := s.instant }

/-- `PHASE <- p; S <- T.START(); N <- 0`: the start of a `WAITWHILE` (R171) as the wait of phase `p`. -/
def beginWait (p : Phase) (s : State) : State := { s with phase := p, begun := true, sReg := s.instant, nReg := 0 }

/-- `N <- N + 1` (R171). -/
def countPoll (s : State) : State := { s with nReg := s.nReg + 1 }

/-- Pass to `exit` when `n` microseconds have gone by since `S`; until then wait (R13, R136). -/
def hold (n : Nat) (exit : State → Result) (s : State) : Result :=
  if s.waited n then exit s else .next s

/-- `delay(n)` as the wait of phase `p` (R136): begin it, or go on with it; pass to `exit` when it is over. -/
def delayIn (p : Phase) (n : Nat) (exit : State → Result) (s : State) : Result :=
  hold n exit (if s.inside p then s else beginDelay p s)

/-! ## Ends of a transaction -/

/-- The failure exit `raise e` (R247): the error is recorded, the line released, and the sequencer goes to `Idle`. It
writes nothing else. -/
def failureExit (e : ErrorKind) (s : State) : State :=
  gotoPhase .idle (setMode .input (releaseLine (recordFailure e s)))

/-- The success completion (R184): the Reading from the frame buffer, the result, the line given up and in Input mode
(R156, which has a success write both, as a failure does; R184 notes that the mode is Input already), `Idle`. -/
def successExit (s : State) : State :=
  gotoPhase .idle (setMode .input (releaseLine (recordSuccess
    { s with reading := { pi := s.frameByte 0, pf := s.frameByte 1, si := s.frameByte 2, sf := s.frameByte 3 } })))

/-! ## The guarded wait (R171) -/

/-- One turn of the loop of `WAITWHILE(level) else raise e`, in an instant at which the line is sampled: leave by `exit`
when the line is not at `level`, fail when `N = T_TIMEOUT_US`, else go on waiting. -/
def pollLine (level : Level) (e : ErrorKind) (exit : State → Result) (s : State) : Result :=
  andThen (lineRead s) fun s =>
    if s.sample = level then
      if s.nReg.toNat = s.params.timeoutUs then .next (failureExit e s) else .next s
    else exit s

/-- The time, in microseconds after `S`, of the next sample of a guarded wait: `(N + 1) × T_POLL_US` (R171). -/
def State.nextPollUs (s : State) : Nat := (s.nReg.toNat + 1) * s.params.pollUs

/-- `WAITWHILE(level) else raise e` as the block of phase `p` (R171): begin it, or go on with it when its next sample is
due. -/
def waitWhile (p : Phase) (level : Level) (e : ErrorKind) (exit : State → Result) (s : State) : Result :=
  if s.inside p then hold s.nextPollUs (fun s => pollLine level e exit (countPoll s)) s
  else pollLine level e exit (beginWait p s)

/-! ## Validation (R182, R183) -/

/-- The checksum of the four data bytes: their sum modulo 256 (R182). -/
def State.checksum (s : State) : Nat :=
  ((s.frameByte 0).toNat + (s.frameByte 1).toNat + (s.frameByte 2).toNat + (s.frameByte 3).toNat) % 256

/-- `FB[0] > PRIMARY_MAX or FB[2] > SECONDARY_MAX` (R183). -/
def State.outOfRange (s : State) : Bool :=
  decide (s.params.primaryMax < (s.frameByte 0).toNat) || decide (s.params.secondaryMax < (s.frameByte 2).toNat)

/-! ## The start of a transaction (R172) and reset (R280) -/

/-- The `START` block of R170 with the acceptance of `S.READ`: the result flags, the frame and the bit counter cleared,
the line taken and driven Low, control at `P.START_LOW`. `L.WRITE(Low)` follows `L.SET_MODE(Output)`, so it is in its
domain (R155). -/
def startTransaction (s : State) : Result :=
  andThen (lineWrite .low (setMode .output (takeLine (clearFrame (clearResult (acceptCommand s)))))) fun s =>
    .next (gotoPhase .startLow s)

/-- Every register of the block at its reset value (R40, R280). The inputs from outside, the parameters and the place in
the instant stay. -/
def resetRegisters (s : State) : State :=
  { s with
    cnt := 0
    time := 0
    owned := false
    mode := .input
    out := .high
    phase := .idle
    bitidx := 0
    sReg := 0
    nReg := 0
    dnReg := 0
    fb := []
    reading := { pi := 0, pf := 0, si := 0, sf := 0 }
    doneFlag := false
    okFlag := false
    initFlag := false
    cmderrFlag := false
    err := .noError
    arg := 0
    result := 0
    handle := 0
    begun := false
    issue := none
    sample := .low }

end Sys2Proof.Machine
end

