-- ==== Sys2Proof/Machine/Port.lean ====
section
/-! DEFINITION. The host register port (20_memory.md): `MemRead`, `MemWrite`, and the host's turn in an instant. -/

namespace Sys2Proof.Machine

/-- `MemRead(idx, 4)` (R62). -/
def readRegister (s : State) (idx : BitVec 3) : Word :=
  match idx.toNat with
  | 1 => s.arg
  | 2 => s.status
  | 3 => s.reading.word
  | 4 => s.result
  | 5 => s.cnt
  | 6 => s.handle
  | _ => 0

/-- `MemWrite(idx, 4, v)` (R63). A write to `CMD` issues the command word, which the next step of this same instant
executes (R34, R228; log 6). -/
def writeRegister (idx : BitVec 3) (v : Word) (s : State) : State :=
  match idx.toNat with
  | 0 => { s with issue := some (.h v) }
  | 1 => { s with arg := v }
  | _ => s

/-- `h_rdata` for the access presented: the register's value, or 0 while the block is in reset (R280); nothing when no
read is presented (log 9). -/
def portRead (s : State) : Option HostAccess → Option Word
  | some (.read idx) => some (if s.inReset then 0 else readRegister s idx)
  | _ => none

/-- The state after the access presented; in reset a write has no effect (R280). -/
def portWrite (s : State) : Option HostAccess → State
  | some (.write idx v) => if s.inReset then s else writeRegister idx v s
  | _ => s

/-- The host's turn in an instant (R13 (3), R61): its access, if it makes one, and its program goes on. -/
def hostTurn (s : State) : State :=
  let access := hostAccess s.hostProg
  let rdata := portRead s access
  { portWrite s access with
    hrdata := rdata
    hostProg := hostRest (rdata.getD 0) s.hostProg
    stage := .afterHost }

end Sys2Proof.Machine
end

