-- ==== Sys2Proof/Machine/Instant.lean ====
section
/-! DEFINITION. One instant (R13): when the sequencer has an enabled step, what is fetched, the tick, and what a step does
when no operation is fetched. -/

namespace Sys2Proof.Machine

/-- The wait of the phase that has been begun is over in this instant (R13: it is passed in the first instant in which
its condition is true). `Idle` waits for a command (R189), so for no instant. -/
def State.waitOver (s : State) : Bool :=
  match s.phase with
  | .idle => false
  | .startLow => s.waited s.params.startLowUs
  | .startHigh => s.waited s.params.startHighUs
  | .bitDelay => s.waited s.params.bitSampleUs
  | .hostDelay => s.waited s.dnReg.toNat
  | .respWait => s.waited s.nextPollUs
  | .respLow => s.waited s.nextPollUs
  | .respHigh => s.waited s.nextPollUs
  | .bitLow => s.waited s.nextPollUs
  | .bitHigh => s.waited s.nextPollUs
  | .validate => true

/-- The sequencer has an enabled step: a block to begin, or a wait that is over. -/
def State.enabled (s : State) : Bool := !s.begun || s.waitOver

/-- The sequencer is quiescent (R13, glossary): no word issued, no enabled step. -/
def State.quiescent (s : State) : Bool := decide (s.issue = none) && !s.enabled

/-- The operation the block executes next, as its code word: none in reset (R280); else the word issued in this instant;
else the phase, if the sequencer has an enabled step. -/
def State.fetch (s : State) : Option CodeWord :=
  if s.inReset then none
  else
    match s.issue with
    | some w => some w
    | none => if s.enabled then some (.p s.phase.code) else none

/-- The tick (R130): the counter and the time go on (they stay 0 while `rst = 1`, R280) and every input pin moves to the
next instant. -/
def tick (s : State) : State :=
  { s with
    cnt := if s.inReset then 0 else s.cnt + 1
    time := if s.inReset then 0 else s.time + 1
    sensor := Wave.later s.sensor
    rst := Wave.later s.rst
    hrdata := none
    stage := .beforeHost }

/-- What happens when no operation is fetched: the host's turn, and after it the tick (R13). While `rst = 1` every
register has its reset value (R280). -/
def advance (s : State) : State :=
  let s := if s.inReset then resetRegisters s else s
  match s.stage with
  | .beforeHost => hostTurn s
  | .afterHost => tick s

/-- `s` with the code word of a table row placed where the next step fetches (log 2): a phase as `PHASE` itself, its
block not yet begun; a host command or a Line Driver operation as the word issued. If the block is in reset in this
instant, the pin is let go. -/
def placeWord (nbits w : Nat) (s : State) : State :=
  let s := { s with rst := if s.inReset then [] else s.rst }
  match codeWordOf nbits w with
  | some (.p c) =>
    match Phase.ofCode c with
    | some p => { gotoPhase p s with issue := none }
    | none => { s with issue := some (.p c) }
  | some c => { s with issue := some c }
  | none => s

end Sys2Proof.Machine
end

