-- ==== Sys2Proof/Machine/Decoder.lean ====
section
/-! DEFINITION. The decoder family: the ten phases of the transaction (42_decoder.md, R170). Executing a phase does, in one
instant, what its block does from where it stands until it is blocked in its timed wait or hands control to the next
block (R13; log 5). -/

namespace Sys2Proof.Machine

/-- `P.IDLE` (R189): wait until a host command uses the sequencer. -/
def execPIdle (s : State) : Result :=
  .next { s with phase := .idle, begun := true }

/-- `P.START_LOW` (R173). -/
def execPStartLow (s : State) : Result :=
  delayIn .startLow s.params.startLowUs (fun s => .next (gotoPhase .startHigh s)) s

/-- After the hold of `P.START_HIGH` the line is released and `P.RESP_WAIT` follows in the same instant (R174). -/
def releaseToSensor (s : State) : Result :=
  .next (gotoPhase .respWait (setMode .input s))

/-- `P.START_HIGH` (R174). -/
def execPStartHigh (s : State) : Result :=
  if s.inside .startHigh then hold s.params.startHighUs releaseToSensor s
  else andThen (lineWrite .high { s with phase := .startHigh }) fun s =>
    hold s.params.startHighUs releaseToSensor (beginDelay .startHigh s)

/-- `P.RESP_WAIT` (R175). -/
def execPRespWait (s : State) : Result :=
  waitWhile .respWait .high .noResponse (fun s => .next (gotoPhase .respLow s)) s

/-- `P.RESP_LOW` (R176). -/
def execPRespLow (s : State) : Result :=
  waitWhile .respLow .low .responseTimeout (fun s => .next (gotoPhase .respHigh s)) s

/-- `P.RESP_HIGH` (R177). -/
def execPRespHigh (s : State) : Result :=
  waitWhile .respHigh .high .responseTimeout (fun s => .next (gotoPhase .bitLow s)) s

/-- `P.BIT_LOW` (R178). -/
def execPBitLow (s : State) : Result :=
  waitWhile .bitLow .low .bitTimeout (fun s => .next (gotoPhase .bitDelay s)) s

/-- After the delay of `P.BIT_DELAY`: sample the line once, shift the bit in, and `P.BIT_HIGH` follows (R179, R180). -/
def sampleBit (s : State) : Result :=
  andThen (lineRead s) fun s =>
    andThen (shiftBit (Level.bit s.sample) s) fun s => .next (gotoPhase .bitHigh s)

/-- `P.BIT_DELAY` (R179). -/
def execPBitDelay (s : State) : Result :=
  delayIn .bitDelay s.params.bitSampleUs sampleBit s

/-- After the trailing high wait of a bit: `BITIDX <- BITIDX + 1`, then the next bit or `P.VALIDATE` (R181). -/
def nextBit (s : State) : Result :=
  let s := completeBit s
  .next (gotoPhase (if s.bitidx.toNat < Config.nBits then .bitLow else .validate) s)

/-- `P.BIT_HIGH` (R181), performed for all 40 bits (D8). -/
def execPBitHigh (s : State) : Result :=
  waitWhile .bitHigh .high .bitTimeout nextBit s

/-- `P.VALIDATE` (R182 to R184): the checksum, then the range, then the success completion. -/
def execPValidate (s : State) : Result :=
  let s := gotoPhase .validate s
  if s.checksum = (s.frameByte 4).toNat then
    if s.outOfRange then .next (failureExit .rangeError s) else .next (successExit s)
  else .next (failureExit .checksumError s)

end Sys2Proof.Machine
end

