-- ==== Sys2Proof/Machine/Facade.lean ====
section
/-! DEFINITION. The facade family: `S.INITIALIZE` and `S.READ` (43_facade.md). -/

namespace Sys2Proof.Machine

/-- `S.INITIALIZE` (R220): refused while `BUSY` (R222); else the handle is stored and `INIT` set. -/
def execSInitialize (s : State) : Result :=
  if s.busy then .next (refuseCommand s)
  else .next { acceptCommand s with handle := s.operandHandle, initFlag := true }

/-- `S.READ` (R221): refused while `BUSY` or before `S.INITIALIZE` (R222); else the `START` block (R172), control passing
to `P.START_LOW` in the same instant. -/
def execSRead (s : State) : Result :=
  if s.busy || !s.initFlag then .next (refuseCommand s)
  else startTransaction s

end Sys2Proof.Machine
end

