-- ==== Sys2Proof/Machine/LineDriver.lean ====
section
/-! DEFINITION. The Line Driver family as operations of their own (41_line_driver.md). The phases issue the same shared
operations inside their blocks (R155). -/

namespace Sys2Proof.Machine

/-- `L.SET_MODE m` (R151). -/
def execLSetMode (m : Mode) (s : State) : Result :=
  .next (setMode m s)

/-- `L.WRITE v` (R152): defined only in Output mode, refused in Input mode (U1). -/
def execLWrite (v : Level) (s : State) : Result :=
  lineWrite v s

/-- `L.READ` (R153): defined only in Input mode, refused in Output mode (U2). The level returned is in `sample` (log 7). -/
def execLRead (s : State) : Result :=
  lineRead s

end Sys2Proof.Machine
end

