-- ==== Sys2Proof/Machine/Timer.lean ====
section
/-! DEFINITION. The timer family: `T.START`, `T.ELAPSED_US`, `T.DELAY_US`, `P.HOST_DELAY` (40_timer.md). -/

namespace Sys2Proof.Machine

/-- `T.START` (R131): accepted in every state. -/
def execTStart (s : State) : Result :=
  .next { acceptCommand s with result := s.instant }

/-- `T.ELAPSED_US` (R132): accepted in every state. -/
def execTElapsedUs (s : State) : Result :=
  .next { acceptCommand s with result := s.elapsedUs s.operandInstant }

/-- `T.DELAY_US` (R133): refused while `BUSY` (R222); else the operand and the instant are saved and control passes to
`P.HOST_DELAY`. -/
def execTDelayUs (s : State) : Result :=
  if s.busy then .next (refuseCommand s)
  else .next (gotoPhase .hostDelay { acceptCommand s with dnReg := s.operandMicros, sReg := s.instant })

/-- `P.HOST_DELAY` (R137): wait until `DN` microseconds have gone by since `S`, then `Idle`. -/
def execPHostDelay (s : State) : Result :=
  hold s.dnReg.toNat (fun s => .next (gotoPhase .idle s)) { s with phase := .hostDelay, begun := true }

end Sys2Proof.Machine
end

