-- ==== Sys2Proof/Machine/Dispatch.lean ====
section
/-! DEFINITION. The meaning of every operation of the table, one arm each. -/

namespace Sys2Proof.Machine

def exec (i : Instr) (s : State) : Host.Outcome State Fault Refusal :=
  match i with
  | .sInitialize => Sys2Proof.Machine.execSInitialize s
  | .sRead => Sys2Proof.Machine.execSRead s
  | .tStart => Sys2Proof.Machine.execTStart s
  | .tElapsedUs => Sys2Proof.Machine.execTElapsedUs s
  | .tDelayUs => Sys2Proof.Machine.execTDelayUs s
  | .lSetMode m => Sys2Proof.Machine.execLSetMode m s
  | .lWrite v => Sys2Proof.Machine.execLWrite v s
  | .lRead => Sys2Proof.Machine.execLRead s
  | .pIdle => Sys2Proof.Machine.execPIdle s
  | .pStartLow => Sys2Proof.Machine.execPStartLow s
  | .pStartHigh => Sys2Proof.Machine.execPStartHigh s
  | .pRespWait => Sys2Proof.Machine.execPRespWait s
  | .pRespLow => Sys2Proof.Machine.execPRespLow s
  | .pRespHigh => Sys2Proof.Machine.execPRespHigh s
  | .pBitLow => Sys2Proof.Machine.execPBitLow s
  | .pBitDelay => Sys2Proof.Machine.execPBitDelay s
  | .pBitHigh => Sys2Proof.Machine.execPBitHigh s
  | .pValidate => Sys2Proof.Machine.execPValidate s
  | .pHostDelay => Sys2Proof.Machine.execPHostDelay s

end Sys2Proof.Machine
end

