-- ==== Sys2Proof/Machine/Issue.lean ====
section
/-! DEFINITION. Running a fetched code word: decode it and execute it, or refuse it (R93, R222, R228). -/

namespace Sys2Proof.Machine

/-- A code word that stands for no operation: an illegal command word is refused with `CMDERR` (R93, R222); a word of the
two internal formats that names no operation has no meaning (log 13). -/
def rejectWord (w : CodeWord) (s : State) : Result :=
  match w with
  | .h _ => .next (refuseCommand s)
  | .m _ => .refused .unlistedMicroWord
  | .p _ => .refused .reservedPhaseCode

/-- Decode a word and execute its operation. -/
def runWord (w : CodeWord) (s : State) : Result :=
  match decode w with
  | .ok i => exec i s
  | .error _ => rejectWord w s

end Sys2Proof.Machine
end

