-- ==== Sys2Proof/Machine/Step.lean ====
section
/-! DEFINITION. One step of the machine: one operation of the sequencer or the host, or the host's turn, or the tick (R13;
log 5). -/

namespace Sys2Proof.Machine

/-- One step: the fetched operation, or, when there is none, the host's turn or the tick. -/
def step (s : State) : Host.Outcome State Fault Refusal :=
  match s.fetch with
  | some w => runWord w { s with issue := none }
  | none => .next (advance s)

/-- `s` with an opcode-table row's word placed where the next step fetches it (log 2). -/
def State.withFetchWord (s : State) (nbits w : Nat) : State := placeWord nbits w s

end Sys2Proof.Machine
end

