-- ==== Sys2Proof/WellFormed.lean ====
section
/-! DEFINITION. Well-formedness of the terms a user writes: instructions, code words, build parameters. The form of the
frame buffer's list is Memory.wf, in Sys2Proof.Machine.Ops. -/

namespace Sys2Proof

/-- Every instruction is well formed: an operand is a mode or a level, and both values of each are encoded (R94, R102);
the other rows have no operand. The match is by constructor, so that a new row must say its own condition. -/
def Instr.wf : Instr → Bool
  | .sInitialize => true
  | .sRead => true
  | .tStart => true
  | .tElapsedUs => true
  | .tDelayUs => true
  | .lSetMode _ => true
  | .lWrite _ => true
  | .lRead => true
  | .pIdle => true
  | .pStartLow => true
  | .pStartHigh => true
  | .pRespWait => true
  | .pRespLow => true
  | .pRespHigh => true
  | .pBitLow => true
  | .pBitDelay => true
  | .pBitHigh => true
  | .pValidate => true
  | .pHostDelay => true

/-- `TICKS_PER_US` is a positive integer (R8). -/
def Params.ticksLegal (p : Params) : Bool := decide (0 < p.ticksPerUs)

/-- `T_START_LOW_US` is at least 18000 (R7). -/
def Params.startLowLegal (p : Params) : Bool := decide (18000 ≤ p.startLowUs)

/-- `T_START_HIGH_US` is 20 to 40 (R7). -/
def Params.startHighLegal (p : Params) : Bool := decide (20 ≤ p.startHighUs) && decide (p.startHighUs ≤ 40)

/-- The start signal's holds are within what the counter can time (R134: a hold of more than
`(2^32 - 1) div TICKS_PER_US` microseconds would never end). -/
def Params.holdsEnd (p : Params) : Bool :=
  decide (p.startLowUs ≤ (2 ^ 32 - 1) / p.ticksPerUs)

/-- The poll counter `N` has 7 bits (R25), so it counts to `T_TIMEOUT_US` only below 128. DEDUCED from R25 and R171. -/
def Params.timeoutLegal (p : Params) : Bool := decide (p.timeoutUs < 128)

/-- `T_BIT_SAMPLE_US` lies strictly between the two high phases, 28 and 70 (92_eei_decisions.md "Open parameters"). -/
def Params.bitSampleLegal (p : Params) : Bool := decide (28 < p.bitSampleUs) && decide (p.bitSampleUs < 70)

/-- The parameters are within the ranges the spec gives them (R7, R8, U15). -/
def Params.legal (p : Params) : Bool :=
  p.ticksLegal && p.startLowLegal && p.startHighLegal && p.timeoutLegal && p.bitSampleLegal

/-- The constants of R6 have the document's values. -/
def Params.documented (p : Params) : Bool :=
  decide (p.timeoutUs = 100) && decide (p.pollUs = 1) && decide (p.bitSampleUs = 40) && decide (p.primaryMax = 100)
    && decide (p.secondaryMax = 85)

end Sys2Proof
end

