-- ==== Sys2Proof/Safety.lean ====
section
/-! DEFINITION. What counts as a safe run: the invariant of every step, the spec's invariants at quiescence (R41), the
states a machine can reach, and the shapes that the statements use. -/

namespace Sys2Proof.Machine

/-- The phases that wait by `WAITWHILE` (R171, R175 to R178, R181). -/
def guardedPhases : List Phase := [.respWait, .respLow, .respHigh, .bitLow, .bitHigh]

/-- The phases in which a transaction has released the line (R41 (2)); `Validate` is among them between two steps. -/
def releasedPhases : List Phase := [.respWait, .respLow, .respHigh, .bitLow, .bitDelay, .bitHigh, .validate]

/-- The phases before the first bit. -/
def handshakePhases : List Phase := [.startLow, .startHigh, .respWait, .respLow, .respHigh]

/-- The phases of one bit. -/
def bitPhases : List Phase := [.bitLow, .bitDelay, .bitHigh]

/-- A transaction is in progress (R41 (6)). -/
def State.inTransaction (s : State) : Prop := s.phase ≠ .idle ∧ s.phase ≠ .hostDelay

/-- What holds before and after every step of a machine that started from reset: R41 said for the places between two
steps of one instant too, with the canonical form of the frame buffer and the counter's relation to time. -/
structure MachineInv (s : State) : Prop where
  /-- `CNT = t mod 2^32` (R130). -/
  clock : s.cnt = BitVec.ofNat 32 s.time
  /-- The frame buffer's list is in canonical form. -/
  frame : s.fb.wf = true
  /-- R41 (1). -/
  atRest : s.phase = .idle ∨ s.phase = .hostDelay → s.owned = false ∧ s.mode = .input
  /-- R41 (2), `StartLow`. -/
  drivenLow : s.phase = .startLow → s.owned = true ∧ s.mode = .output ∧ s.out = .low
  /-- R41 (2), `StartHigh`; its block drives High as soon as it is begun. -/
  drivenHigh : s.phase = .startHigh → s.owned = true ∧ s.mode = .output ∧ (s.begun = true → s.out = .high)
  /-- R41 (2), the phases after the release. -/
  released : s.phase ∈ releasedPhases → s.owned = true ∧ s.mode = .input
  /-- R41 (3). -/
  bitBound : s.bitidx.toNat ≤ 40
  /-- No bit is complete during the handshake (R24). -/
  noBitYet : s.phase ∈ handshakePhases → s.bitidx = 0
  /-- The bit being received is one of the 40 (R24). -/
  bitOpen : s.phase ∈ bitPhases → s.bitidx.toNat < 40
  /-- R41 (3), `Validate`; it takes no time, so it is never waited in (R41 (8)). -/
  allBits : s.phase = .validate → s.bitidx.toNat = 40 ∧ s.begun = false
  /-- R41 (4). -/
  success : s.okFlag = true →
    s.doneFlag = true ∧ s.err = .noError ∧ s.reading.pi.toNat ≤ s.params.primaryMax ∧
      s.reading.si.toNat ≤ s.params.secondaryMax
  /-- R41 (5). -/
  failure : s.doneFlag = true → s.okFlag = false → s.err ≠ .noError
  /-- R41 (6). -/
  pending : s.inTransaction → s.initFlag = true ∧ s.doneFlag = false ∧ s.okFlag = false ∧ s.err = .noError
  /-- R41 (7). -/
  polls : s.nReg.toNat ≤ s.params.timeoutUs
  /-- A guarded wait under way has a poll delay left (R171: at `N = T_TIMEOUT_US` it has ended). -/
  pollLeft : s.phase ∈ guardedPhases → s.begun = true → s.nReg.toNat < s.params.timeoutUs
  /-- `N` can count to `T_TIMEOUT_US` (R25). -/
  pollsFit : s.params.timeoutUs < 128
  /-- Only host command words are issued outside the phases' blocks (R155). -/
  issued : ∀ c, s.issue = some c → ∃ w, c = .h w

/-- The eight invariants of R41, which hold at quiescence with the constants of R6. -/
structure QuiescentInv (s : State) : Prop where
  /-- R41 (1). -/
  atRest : s.phase = .idle ∨ s.phase = .hostDelay → s.owned = false ∧ s.mode = .input
  /-- R41 (2). -/
  drivenLow : s.phase = .startLow → s.lstate = .driveLow
  /-- R41 (2). -/
  drivenHigh : s.phase = .startHigh → s.lstate = .driveHigh
  /-- R41 (2). -/
  released : s.phase ∈ [Phase.respWait, .respLow, .respHigh, .bitLow, .bitDelay, .bitHigh] → s.lstate = .input
  /-- R41 (3). -/
  bitBound : s.bitidx.toNat ≤ 40
  /-- R41 (3): 40 complete bits during a transaction only in `Validate`. -/
  allBits : s.inTransaction → s.bitidx.toNat = 40 → s.phase = .validate
  /-- R41 (4). -/
  success : s.okFlag = true →
    s.doneFlag = true ∧ s.err = .noError ∧ s.reading.pi.toNat ≤ 100 ∧ s.reading.si.toNat ≤ 85
  /-- R41 (5). -/
  failure : s.doneFlag = true → s.okFlag = false → 1 ≤ s.err.code.toNat ∧ s.err.code.toNat ≤ 5
  /-- R41 (6). -/
  pending : s.inTransaction → s.initFlag = true ∧ s.doneFlag = false ∧ s.okFlag = false ∧ s.err = .noError
  /-- R41 (7). -/
  polls : s.nReg.toNat ≤ 100
  /-- R41 (8). -/
  notValidate : s.phase ≠ .validate

/-- The whole microseconds gone by since the `Instant` in `S`: `((CNT - S) mod 2^32) div TICKS_PER_US` (R132, R136). -/
def State.sinceS (s : State) : Nat := (s.cnt - s.sReg).toNat / s.params.ticksPerUs

/-- The guarded waits whose end hands control on and does nothing else (R175 to R178), each with its phase, the level it
waits to leave, the error it raises, and the phase that follows. -/
def plainWaits : List (Instr × Phase × Level × ErrorKind × Phase) :=
  [(.pRespWait, .respWait, .high, .noResponse, .respLow),
   (.pRespLow, .respLow, .low, .responseTimeout, .respHigh),
   (.pRespHigh, .respHigh, .high, .responseTimeout, .bitLow),
   (.pBitLow, .bitLow, .low, .bitTimeout, .bitDelay)]

/-- The machine right after reset, built with the parameters `p`, in an environment: a sensor, a reset pin, a host. -/
def bootState (p : Params) (sensor : Wave Level) (rst : Wave Bool) (host : List HostStmt) : State :=
  { State.reset with params := p, sensor := sensor, rst := rst, hostProg := host }

/-- The states a machine reaches in some environment. -/
inductive Reachable : State → Prop where
  /-- Right after reset, with legal parameters (R7, R8), in any environment. -/
  | boot (p : Params) (sensor : Wave Level) (rst : Wave Bool) (host : List HostStmt) (hp : p.legal = true) :
      Reachable (bootState p sensor rst host)
  /-- One step further. -/
  | step (s t : State) (hs : Reachable s) (h : Sys2Proof.Machine.step s = .next t) : Reachable t

/-- After `k` steps the machine stands in `t`. -/
def Reaches (s : State) (k : Nat) (t : State) : Prop := Sys2Proof.core.run k s = .next t

/-- The receipt of bits as the phases do it: each shifted in (R180), then counted (R181). -/
def receiveBits : List Bool → State → Result
  | [], s => .next s
  | b :: bits, s => andThen (shiftBit (BitVec.ofBool b) s) fun s => receiveBits bits (completeBit s)

/-- The steps from one phase to another that R170 writes (R23), with the failure exits (R185) and the host delay. -/
def phaseEdges : List (Phase × Phase) :=
  [(.idle, .startLow), (.idle, .hostDelay), (.hostDelay, .idle),
   (.startLow, .startHigh), (.startHigh, .respWait),
   (.respWait, .respLow), (.respWait, .idle), (.respLow, .respHigh), (.respLow, .idle),
   (.respHigh, .bitLow), (.respHigh, .idle),
   (.bitLow, .bitDelay), (.bitLow, .idle), (.bitDelay, .bitHigh),
   (.bitHigh, .bitLow), (.bitHigh, .validate), (.bitHigh, .idle), (.validate, .idle)]

end Sys2Proof.Machine
end

