-- ==== Sys2Proof/Certificates/Slice0/Obligations.lean ====
section
/-! DEFINITION. The statements for the provers. Each docstring says which rule of spec/ it formalises. A statement whose
equations name the fields `begun`, `stage`, `issue` or `sample` says there what the model's own fields do (log 5, 6, 7). -/

open Sys2Proof Sys2Proof.Machine

/-! ## Encoding -/

/-- R92, R94, R100: the words of the three formats, written out from their tables, decode to their operations; words that
the tables leave out decode to none. -/
def Obligations.ListedWordsDecode : Prop :=
  decode (.h 0x00000001) = .ok .sInitialize ∧ decode (.h 0x00000002) = .ok .sRead ∧
  decode (.h 0x00000010) = .ok .tStart ∧ decode (.h 0x00000011) = .ok .tElapsedUs ∧
  decode (.h 0x00000012) = .ok .tDelayUs ∧
  decode (.m 0b001000000) = .ok (.lSetMode .input) ∧ decode (.m 0b001000001) = .ok (.lSetMode .output) ∧
  decode (.m 0b001000010) = .ok (.lWrite .low) ∧ decode (.m 0b001000011) = .ok (.lWrite .high) ∧
  decode (.m 0b001000100) = .ok .lRead ∧
  decode (.p 0) = .ok .pIdle ∧ decode (.p 1) = .ok .pStartLow ∧ decode (.p 2) = .ok .pStartHigh ∧
  decode (.p 3) = .ok .pRespWait ∧ decode (.p 4) = .ok .pRespLow ∧ decode (.p 5) = .ok .pRespHigh ∧
  decode (.p 6) = .ok .pBitLow ∧ decode (.p 7) = .ok .pBitDelay ∧ decode (.p 8) = .ok .pBitHigh ∧
  decode (.p 9) = .ok .pValidate ∧ decode (.p 10) = .ok .pHostDelay ∧
  decode (.h 0x00000000) = .error .reservedOpcode ∧ decode (.h 0x00000020) = .error .reservedOpcode ∧
  decode (.h 0x00000102) = .error .upperBitsNotZero ∧ decode (.m 0b001000101) = .error .operandBitNotZero ∧
  decode (.p 11) = .error .reservedPhase

/-- R90, R92, R94, R100: decoding and encoding agree on every word of every format and every operand: a word stands for an
operation exactly when it is that operation's own word, so no operation has two words and no word two operations. -/
def Obligations.DecodeInvertsEncodeExactly : Prop :=
  ∀ (c : CodeWord) (i : Instr), decode c = .ok i ↔ encode i = c

/-- R93: an illegal command word is refused: `CMDERR <- 1`, and nothing else changes. -/
def Obligations.IllegalCommandWordRefused : Prop :=
  ∀ (s : State) (w : BitVec 32), s.inReset = false → s.issue = some (.h w) →
    (w.extractLsb' 8 24 ≠ 0 ∨ (w.extractLsb' 0 8).toNat ∉ [0x01, 0x02, 0x10, 0x11, 0x12]) →
    step s = .next { s with issue := none, cmderrFlag := true }

/-! ## The step -/

/-- A step runs the decoded instruction: the word issued in this instant, or, with none issued, the code of `PHASE` when
the sequencer has an enabled step (R13 (2), (4), R228). The step adds nothing around it but emptying the issue slot. -/
def Obligations.StepRunsFetchedInstruction : Prop :=
  (∀ (s : State) (c : CodeWord) (i : Instr), s.inReset = false → s.issue = some c → decode c = .ok i →
    step s = exec i { s with issue := none }) ∧
  (∀ (s : State) (i : Instr), s.inReset = false → s.issue = none → s.enabled = true →
    decode (.p s.phase.code) = .ok i → step s = exec i s)

/-- The model's own interface (log 2): a table row's word placed by withFetchWord is run by the very next step, from any
state. -/
def Obligations.PlacedWordRunsNext : Prop :=
  ∀ (s : State) (nbits w : Nat) (i : Instr), decodeTableWord nbits w = some i →
    step (s.withFetchWord nbits w) = exec i { s.withFetchWord nbits w with issue := none }

/-- R13, R130: with the sequencer quiescent the host has its turn, and after it the tick: the counter goes on by one
modulo 2^32, and the input pins move to the next instant. -/
def Obligations.QuiescentInstantHasHostTurnThenTick : Prop :=
  ∀ s : State, s.inReset = false → s.quiescent = true →
    (s.stage = .beforeHost → step s = .next (hostTurn s)) ∧
    (s.stage = .afterHost → step s = .next
      { s with
        cnt := s.cnt + 1, time := s.time + 1, sensor := Wave.later s.sensor, rst := Wave.later s.rst
        hrdata := none, stage := .beforeHost })

/-- R20: `CNT` is written by the tick and by reset, and by nothing else. -/
def Obligations.CounterWrittenOnlyByTickOrReset : Prop :=
  ∀ s t : State, step s = .next t → t.cnt ≠ s.cnt →
    (s.inReset = true ∧ t.cnt = 0) ∨
    (s.inReset = false ∧ s.quiescent = true ∧ s.stage = .afterHost ∧ t.cnt = s.cnt + 1)

/-! ## Host registers -/

/-- R32: the fields of `STATUS`, and its reserved bits. -/
def Obligations.StatusWordHasItsFields : Prop :=
  ∀ s : State,
    s.status.getLsbD 0 = decide (s.phase ≠ .idle) ∧ s.status.getLsbD 1 = s.doneFlag ∧
    s.status.getLsbD 2 = s.okFlag ∧ s.status.getLsbD 3 = s.initFlag ∧ s.status.getLsbD 4 = s.cmderrFlag ∧
    s.status.extractLsb' 5 3 = 0 ∧ s.status.extractLsb' 8 3 = s.err.code ∧ s.status.extractLsb' 11 1 = 0 ∧
    s.status.extractLsb' 12 4 = s.phase.code ∧ s.status.extractLsb' 16 6 = s.bitidx ∧
    s.status.extractLsb' 22 2 = 0 ∧ s.status.extractLsb' 24 2 = s.lstate.code ∧ s.status.extractLsb' 26 6 = 0

/-- R33: the fields of the `READING` word. -/
def Obligations.ReadingWordHasItsBytes : Prop :=
  ∀ r : Reading, r.word.extractLsb' 0 8 = r.pi ∧ r.word.extractLsb' 8 8 = r.pf ∧
    r.word.extractLsb' 16 8 = r.si ∧ r.word.extractLsb' 24 8 = r.sf

/-- R22, R150: the Line State and the line's level as functions of `OWNED`, `MODE`, `OUT` and `SENSOR`. -/
def Obligations.LineStateAndLevelFollowLineBits : Prop :=
  ∀ s : State,
    (s.owned = false → s.lstate = .idle) ∧
    (s.owned = true → s.mode = .input → s.lstate = .input) ∧
    (s.owned = true → s.mode = .output → s.out = .low → s.lstate = .driveLow) ∧
    (s.owned = true → s.mode = .output → s.out = .high → s.lstate = .driveHigh) ∧
    (s.mode = .output → s.line = s.out ∧ s.lineOe = true) ∧
    (s.mode = .input → s.line = s.sensorAt 0 ∧ s.lineOe = false) ∧
    s.lineO = s.out ∧ s.lineI = s.line

/-- R62: a host read of an index answers the value of the table and changes no state of the block. -/
def Obligations.HostReadAnswersItsRegister : Prop :=
  ∀ (s : State) (idx : BitVec 3) (rest : List HostStmt) (v : Word),
    s.inReset = false → s.quiescent = true → s.stage = .beforeHost → s.hostProg = .rd idx :: rest →
    [0, s.arg, s.status, s.reading.word, s.result, s.cnt, s.handle, 0][idx.toNat]? = some v →
    step s = .next { s with hrdata := some v, hostProg := rest, stage := .afterHost }

/-- R63, R37: a host write to index 0 issues its word, to index 1 writes `ARG`, to indices 2 to 7 changes nothing. -/
def Obligations.HostWriteReachesItsRegister : Prop :=
  ∀ (s : State) (idx : BitVec 3) (v : Word) (rest : List HostStmt),
    s.inReset = false → s.quiescent = true → s.stage = .beforeHost → s.hostProg = .wr idx v :: rest →
    (idx = 0 → step s = .next
      { s with issue := some (.h v), hrdata := none, hostProg := rest, stage := .afterHost }) ∧
    (idx = 1 → step s = .next { s with arg := v, hrdata := none, hostProg := rest, stage := .afterHost }) ∧
    (2 ≤ idx.toNat → step s = .next { s with hrdata := none, hostProg := rest, stage := .afterHost })

/-- R20, R27, R28, R29: outside reset `ARG` changes only by a host write to index 1, `HANDLE` and `INIT` only by
`S.INITIALIZE`, `RESULT` only by `T.START` and `T.ELAPSED_US`; the build parameters never change (R70). -/
def Obligations.HostRegistersChangeOnlyByTheirOwners : Prop :=
  ∀ s t : State, s.inReset = false → step s = .next t →
    (t.arg ≠ s.arg → s.fetch = none ∧ s.stage = .beforeHost ∧
      ∃ v, hostAccess s.hostProg = some (.write 1 v) ∧ t.arg = v) ∧
    (t.handle ≠ s.handle → s.fetch = some (.h 0x01) ∧ s.phase = .idle ∧ t.handle = s.arg) ∧
    (t.initFlag ≠ s.initFlag → s.fetch = some (.h 0x01) ∧ s.phase = .idle ∧ t.initFlag = true) ∧
    (t.result ≠ s.result →
      (s.fetch = some (.h 0x10) ∧ t.result = s.cnt) ∨ (s.fetch = some (.h 0x11) ∧ t.result = s.elapsedUs s.arg)) ∧
    t.params = s.params

/-! ## Host commands -/

/-- R222: what a refusal is, and which command is refused when. -/
def Obligations.CommandsRefusedWithCmderrAlone : Prop :=
  (∀ s : State, s.phase ≠ .idle → exec .sInitialize s = .next { s with cmderrFlag := true }) ∧
  (∀ s : State, s.phase ≠ .idle ∨ s.initFlag = false → exec .sRead s = .next { s with cmderrFlag := true }) ∧
  (∀ s : State, s.phase ≠ .idle → exec .tDelayUs s = .next { s with cmderrFlag := true }) ∧
  (∀ s : State, ∃ t, exec .tStart s = .next t ∧ t.cmderrFlag = false) ∧
  (∀ s : State, ∃ t, exec .tElapsedUs s = .next t ∧ t.cmderrFlag = false) ∧
  (∀ (s : State) (w : BitVec 32) (e : DecodeReject), decode (.h w) = .error e →
    runWord (.h w) s = .next { s with cmderrFlag := true })

/-- R220: an accepted `S.INITIALIZE` stores the handle, sets `INIT`, clears `CMDERR`, and touches nothing else. -/
def Obligations.InitializeStoresHandle : Prop :=
  ∀ s : State, s.phase = .idle →
    exec .sInitialize s = .next { s with cmderrFlag := false, handle := s.arg, initFlag := true }

/-- R221, R172: an accepted `S.READ` clears the result flags, the frame and the bit counter, takes the line, drives it Low
and stands at `P.START_LOW`; `READING` and the rest are untouched. -/
def Obligations.ReadStartsTransaction : Prop :=
  ∀ s : State, s.phase = .idle → s.initFlag = true →
    exec .sRead s = .next
      { s with
        cmderrFlag := false, doneFlag := false, okFlag := false, err := .noError, fb := [], bitidx := 0
        owned := true, mode := .output, out := .low, phase := .startLow, begun := false }

/-- R131: `T.START` in every state. -/
def Obligations.TimerStartSnapshotsCounter : Prop :=
  ∀ s : State, exec .tStart s = .next { s with result := s.cnt, cmderrFlag := false }

/-- R132: `T.ELAPSED_US` in every state: the wrapped difference in ticks, divided with truncation. -/
def Obligations.ElapsedDividesWrappedDifference : Prop :=
  ∀ s : State, ∃ r : Word, r.toNat = ((s.cnt - s.arg).toNat) / s.params.ticksPerUs ∧
    exec .tElapsedUs s = .next { s with result := r, cmderrFlag := false }

/-- R133: an accepted `T.DELAY_US` saves its operand and the instant and stands at `P.HOST_DELAY`. -/
def Obligations.DelayCommandStartsHostDelay : Prop :=
  ∀ s : State, s.phase = .idle →
    exec .tDelayUs s = .next
      { s with cmderrFlag := false, dnReg := s.arg, sReg := s.cnt, phase := .hostDelay, begun := false }

/-- R222, R135, R285: whatever word the host writes to `CMD` while the block is busy, the machine goes on, and nothing but
`CMDERR` and `RESULT` can differ: the transaction or delay in progress is undisturbed. -/
def Obligations.BusyBlockIsUndisturbedByCommands : Prop :=
  ∀ (s : State) (w : BitVec 32), s.phase ≠ .idle →
    ∃ (c : Bool) (r : Word), runWord (.h w) s = .next { s with cmderrFlag := c, result := r }

/-! ## Line Driver -/

/-- R151: `L.SET_MODE m` sets the mode and leaves `OUT` and everything else unchanged. -/
def Obligations.SetModeSetsModeAlone : Prop :=
  ∀ (s : State) (m : Mode), exec (.lSetMode m) s = .next { s with mode := m }

/-- R152, U1: `L.WRITE v` in Output mode sets the latch alone, and the line is at `v`; in Input mode it is refused. -/
def Obligations.LineWriteDrivesInOutputMode : Prop :=
  (∀ (s : State) (v : Level), s.mode = .output →
    exec (.lWrite v) s = .next { s with out := v } ∧ ({ s with out := v } : State).line = v) ∧
  (∀ (s : State) (v : Level), s.mode = .input → exec (.lWrite v) s = .refused .lineWriteInInputMode)

/-- R153, U2: `L.READ` in Input mode returns `SENSOR` of this instant and changes no register; in Output mode it is
refused. The level returned stands in the model's own field `sample` (log 7). -/
def Obligations.LineReadSamplesInInputMode : Prop :=
  (∀ s : State, s.mode = .input → exec .lRead s = .next { s with sample := s.sensorAt 0 }) ∧
  (∀ s : State, s.mode = .output → exec .lRead s = .refused .lineReadInOutputMode)

/-! ## Phases -/

/-- R189: `P.IDLE` waits in `Idle`, changing no register; and waiting there the sequencer has no step of its own. -/
def Obligations.IdleWaitsForCommands : Prop :=
  (∀ s : State, s.phase = .idle → exec .pIdle s = .next { s with begun := true }) ∧
  (∀ s : State, s.phase = .idle → s.begun = true → s.enabled = false)

/-- R173, R136: `P.START_LOW` takes the instant and waits; until `T_START_LOW_US` have gone by it changes nothing; then
control passes to `P.START_HIGH`. -/
def Obligations.StartLowHoldsItsTime : Prop :=
  (∀ s : State, s.inside .startLow = false → 0 < s.params.startLowUs →
    exec .pStartLow s = .next { s with phase := .startLow, begun := true, sReg := s.cnt }) ∧
  (∀ s : State, s.inside .startLow = false → s.params.startLowUs = 0 →
    exec .pStartLow s = .next { s with phase := .startHigh, begun := false, sReg := s.cnt }) ∧
  (∀ s : State, s.inside .startLow = true → s.sinceS < s.params.startLowUs → exec .pStartLow s = .next s) ∧
  (∀ s : State, s.inside .startLow = true → s.params.startLowUs ≤ s.sinceS →
    exec .pStartLow s = .next { s with phase := .startHigh, begun := false })

/-- R174, R136: `P.START_HIGH` drives High and waits; then it releases the line to Input and control passes to
`P.RESP_WAIT`. The third clause is the model's choice, log 10 (DEDUCED from R152 and U1, which speak of `L.WRITE` exposed
on its own; R155 says that the sequencer never comes to it): begun with the line in Input mode, the whole block is
refused. -/
def Obligations.StartHighHoldsThenReleases : Prop :=
  (∀ s : State, s.inside .startHigh = false → s.mode = .output → 0 < s.params.startHighUs →
    exec .pStartHigh s = .next { s with phase := .startHigh, begun := true, sReg := s.cnt, out := .high }) ∧
  (∀ s : State, s.inside .startHigh = false → s.mode = .output → s.params.startHighUs = 0 →
    exec .pStartHigh s = .next
      { s with phase := .respWait, begun := false, sReg := s.cnt, out := .high, mode := .input }) ∧
  (∀ s : State, s.inside .startHigh = false → s.mode = .input →
    exec .pStartHigh s = .refused .lineWriteInInputMode) ∧
  (∀ s : State, s.inside .startHigh = true → s.sinceS < s.params.startHighUs → exec .pStartHigh s = .next s) ∧
  (∀ s : State, s.inside .startHigh = true → s.params.startHighUs ≤ s.sinceS →
    exec .pStartHigh s = .next { s with mode := .input, phase := .respWait, begun := false })

/-- R171, R175 to R178, the passing side: `P.RESP_WAIT`, `P.RESP_LOW`, `P.RESP_HIGH` and `P.BIT_LOW` hand control on in
the instant a sample finds the line off their level: the sample at the beginning of the wait, or a later one when it is
due. Nothing else of the state changes but `PHASE` and the working registers. -/
def Obligations.PlainWaitPassesWhenLineLeavesLevel : Prop :=
  ∀ row ∈ plainWaits, ∀ s : State, s.mode = .input → s.sensorAt 0 ≠ row.2.2.1 →
    (s.inside row.2.1 = false → exec row.1 s = .next
      { s with phase := row.2.2.2.2, begun := false, sReg := s.cnt, nReg := 0, sample := s.sensorAt 0 }) ∧
    (s.inside row.2.1 = true → (s.nReg.toNat + 1) * s.params.pollUs ≤ s.sinceS → exec row.1 s = .next
      { s with phase := row.2.2.2.2, begun := false, nReg := s.nReg + 1, sample := s.sensorAt 0 })

/-- R171, R175 to R178, the waiting and the failing side, for the same four: a wait begins with a sample, takes the next
one only when it is due, `(N + 1) × T_POLL_US` after its beginning, and with the line still at its level at
`N = T_TIMEOUT_US` makes the failure exit of R247 with its error. The last clause is the model's choice, log 10 (DEDUCED
from R153 and U2, which speak of `L.READ` exposed on its own; R155 says that the sequencer never comes to it): a sample
due in Output mode refuses the whole phase. -/
def Obligations.PlainWaitPollsAndTimesOut : Prop :=
  ∀ row ∈ plainWaits, ∀ s : State,
    (s.inside row.2.1 = true → s.sinceS < (s.nReg.toNat + 1) * s.params.pollUs → exec row.1 s = .next s) ∧
    (s.mode = .input → s.sensorAt 0 = row.2.2.1 → s.inside row.2.1 = false → 0 < s.params.timeoutUs →
      exec row.1 s = .next
        { s with phase := row.2.1, begun := true, sReg := s.cnt, nReg := 0, sample := s.sensorAt 0 }) ∧
    (s.mode = .input → s.sensorAt 0 = row.2.2.1 → s.inside row.2.1 = true →
      (s.nReg.toNat + 1) * s.params.pollUs ≤ s.sinceS → (s.nReg + 1).toNat ≠ s.params.timeoutUs →
      exec row.1 s = .next { s with nReg := s.nReg + 1, sample := s.sensorAt 0 }) ∧
    (s.mode = .input → s.sensorAt 0 = row.2.2.1 → s.inside row.2.1 = true →
      (s.nReg.toNat + 1) * s.params.pollUs ≤ s.sinceS → (s.nReg + 1).toNat = s.params.timeoutUs →
      exec row.1 s = .next
        { s with
          nReg := s.nReg + 1, sample := s.sensorAt 0, err := row.2.2.2.1, okFlag := false, doneFlag := true
          owned := false, phase := .idle, begun := false }) ∧
    (s.mode = .output → (s.inside row.2.1 = false ∨ (s.nReg.toNat + 1) * s.params.pollUs ≤ s.sinceS) →
      exec row.1 s = .refused .lineReadInOutputMode)

/-- R179, R180: `P.BIT_DELAY` takes the instant and waits without sampling; after `T_BIT_SAMPLE_US` it samples once,
shifts the bit (High 1, Low 0) into the frame-buffer byte `BITIDX div 8`, and control passes to `P.BIT_HIGH`. The last
clause is the model's choice, log 10 (DEDUCED from R153 and U2, which speak of `L.READ` exposed on its own; R155 says that
the sequencer never comes to it): a sample due in Output mode refuses the whole phase. -/
def Obligations.BitDelaySamplesOnceAndShifts : Prop :=
  (∀ s : State, s.inside .bitDelay = false → 0 < s.params.bitSampleUs →
    exec .pBitDelay s = .next { s with phase := .bitDelay, begun := true, sReg := s.cnt }) ∧
  (∀ s : State, s.inside .bitDelay = true → s.sinceS < s.params.bitSampleUs → exec .pBitDelay s = .next s) ∧
  (∀ s : State, s.inside .bitDelay = true → s.params.bitSampleUs ≤ s.sinceS → s.mode = .input →
    s.bitidx.toNat < 40 →
    exec .pBitDelay s = .next
      { s with
        sample := s.sensorAt 0, phase := .bitHigh, begun := false
        fb := s.fb.write (s.bitidx.toNat / 8)
          ((s.frameByte (s.bitidx.toNat / 8) <<< 1) ||| (if s.sensorAt 0 = .high then 1 else 0)) }) ∧
  (∀ s : State, s.inside .bitDelay = true → s.params.bitSampleUs ≤ s.sinceS → s.mode = .output →
    exec .pBitDelay s = .refused .lineReadInOutputMode)

/-- R181: `P.BIT_HIGH` when the line is Low at a sample: the bit is counted, and control passes to the next bit, or after
the 40th to `P.VALIDATE`. -/
def Obligations.BitHighCountsBitWhenLineIsLow : Prop :=
  ∀ s : State, s.mode = .input → s.sensorAt 0 = .low → s.bitidx.toNat < 40 →
    (s.inside .bitHigh = false → exec .pBitHigh s = .next
      { s with
        phase := (if s.bitidx.toNat = 39 then .validate else .bitLow), begun := false, bitidx := s.bitidx + 1
        sReg := s.cnt, nReg := 0, sample := .low }) ∧
    (s.inside .bitHigh = true → (s.nReg.toNat + 1) * s.params.pollUs ≤ s.sinceS → exec .pBitHigh s = .next
      { s with
        phase := (if s.bitidx.toNat = 39 then .validate else .bitLow), begun := false, bitidx := s.bitidx + 1
        nReg := s.nReg + 1, sample := .low })

/-- R181, R171, R242: `P.BIT_HIGH` while the line stays High: it waits from sample to sample, and at `N = T_TIMEOUT_US` it
makes the failure exit with `BitTimeout`, `BITIDX` still the failing bit's number. The last clause is the model's choice,
log 10 (DEDUCED from R153 and U2, which speak of `L.READ` exposed on its own; R155 says that the sequencer never comes to
it): a sample due in Output mode refuses the whole phase. -/
def Obligations.BitHighPollsAndTimesOut : Prop :=
  ∀ s : State,
    (s.inside .bitHigh = true → s.sinceS < (s.nReg.toNat + 1) * s.params.pollUs → exec .pBitHigh s = .next s) ∧
    (s.mode = .input → s.sensorAt 0 = .high → s.inside .bitHigh = false → 0 < s.params.timeoutUs →
      exec .pBitHigh s = .next { s with phase := .bitHigh, begun := true, sReg := s.cnt, nReg := 0, sample := .high }) ∧
    (s.mode = .input → s.sensorAt 0 = .high → s.inside .bitHigh = true →
      (s.nReg.toNat + 1) * s.params.pollUs ≤ s.sinceS → (s.nReg + 1).toNat ≠ s.params.timeoutUs →
      exec .pBitHigh s = .next { s with nReg := s.nReg + 1, sample := .high }) ∧
    (s.mode = .input → s.sensorAt 0 = .high → s.inside .bitHigh = true →
      (s.nReg.toNat + 1) * s.params.pollUs ≤ s.sinceS → (s.nReg + 1).toNat = s.params.timeoutUs →
      exec .pBitHigh s = .next
        { s with
          nReg := s.nReg + 1, sample := .high, err := .bitTimeout, okFlag := false, doneFlag := true
          owned := false, phase := .idle, begun := false }) ∧
    (s.mode = .output → (s.inside .bitHigh = false ∨ (s.nReg.toNat + 1) * s.params.pollUs ≤ s.sinceS) →
      exec .pBitHigh s = .refused .lineReadInOutputMode)

/-- R182 to R184, R156: a frame whose checksum matches and whose two integer bytes are in range ends in success: the
Reading from bytes 0 to 3, `OK`, `DONE`, no error, the line given up and in Input mode, `Idle`. -/
def Obligations.ValidateDeliversGoodFrame : Prop :=
  ∀ s : State,
    ((s.frameByte 0).toNat + (s.frameByte 1).toNat + (s.frameByte 2).toNat + (s.frameByte 3).toNat) % 256
      = (s.frameByte 4).toNat →
    (s.frameByte 0).toNat ≤ s.params.primaryMax → (s.frameByte 2).toNat ≤ s.params.secondaryMax →
    exec .pValidate s = .next
      { s with
        reading := { pi := s.frameByte 0, pf := s.frameByte 1, si := s.frameByte 2, sf := s.frameByte 3 }
        okFlag := true, err := .noError, doneFlag := true, owned := false, mode := .input, phase := .idle
        begun := false }

/-- R182, R183, R248: a bad checksum fails with `ChecksumError` whatever the range; a good one with an integer byte out of
range fails with `RangeError`; both by the failure exit, `READING` untouched. -/
def Obligations.ValidateChecksChecksumBeforeRange : Prop :=
  ∀ s : State,
    (((s.frameByte 0).toNat + (s.frameByte 1).toNat + (s.frameByte 2).toNat + (s.frameByte 3).toNat) % 256
        ≠ (s.frameByte 4).toNat →
      exec .pValidate s = .next
        { s with
          err := .checksumError, okFlag := false, doneFlag := true, owned := false, mode := .input
          phase := .idle, begun := false }) ∧
    (((s.frameByte 0).toNat + (s.frameByte 1).toNat + (s.frameByte 2).toNat + (s.frameByte 3).toNat) % 256
        = (s.frameByte 4).toNat →
      s.params.primaryMax < (s.frameByte 0).toNat ∨ s.params.secondaryMax < (s.frameByte 2).toNat →
      exec .pValidate s = .next
        { s with
          err := .rangeError, okFlag := false, doneFlag := true, owned := false, mode := .input
          phase := .idle, begun := false })

/-- R137: `P.HOST_DELAY` waits until `DN` microseconds have gone by since `S`, then goes to `Idle`; it touches no flag and
not the line. -/
def Obligations.HostDelayWaitsForItsOperand : Prop :=
  (∀ s : State, s.phase = .hostDelay → s.sinceS < s.dnReg.toNat →
    exec .pHostDelay s = .next { s with begun := true }) ∧
  (∀ s : State, s.phase = .hostDelay → s.dnReg.toNat ≤ s.sinceS →
    exec .pHostDelay s = .next { s with phase := .idle, begun := false })

/-! ## Frame buffer -/

/-- R180: `SHIFT` in each of the 40 bit positions: the byte `BITIDX div 8` becomes `((FB[i] << 1) | b) & 0xFF`, the other
bytes and the rest of the state stay, and the buffer keeps its canonical form. -/
def Obligations.ShiftWritesOneFrameByte : Prop :=
  ∀ (s : State) (b : BitVec 1), s.fb.wf = true → s.bitidx.toNat < 40 →
    ∃ t, shiftBit b s = .next t ∧ t = { s with fb := t.fb } ∧ t.fb.wf = true ∧
      (t.frameByte (s.bitidx.toNat / 8)).toNat = ((s.frameByte (s.bitidx.toNat / 8)).toNat * 2 + b.toNat) % 256 ∧
      ∀ j, j ≠ s.bitidx.toNat / 8 → t.frameByte j = s.frameByte j

/-- R179, R180: the phase that stores, `P.BIT_DELAY` at its sample: read byte by byte, the frame buffer changes at
`BITIDX div 8` alone, where the sampled bit comes in from the right. -/
def Obligations.BitDelayStoresAtItsBytesAddressAlone : Prop :=
  ∀ s : State, s.inside .bitDelay = true → s.params.bitSampleUs ≤ s.sinceS → s.mode = .input →
    s.bitidx.toNat < 40 → s.fb.wf = true →
    ∃ t, exec .pBitDelay s = .next t ∧ t.fb.wf = true ∧
      (t.frameByte s.frameAddress).toNat
        = ((s.frameByte s.frameAddress).toNat * 2 + (if s.sensorAt 0 = .high then 1 else 0)) % 256 ∧
      ∀ a, a ≠ s.frameAddress → t.frameByte a = s.frameByte a

/-- The model's choice (log 11): a shift at a bit position past the frame faults, since `FB` has bytes 0 to 4 only
(R26). -/
def Obligations.ShiftPastFrameFaults : Prop :=
  ∀ (s : State) (b : BitVec 1), 40 ≤ s.bitidx.toNat →
    shiftBit b s = .fault (.noSuchFrameByte (s.bitidx.toNat / 8))

/-- R96, R66: eight bits received one after another from the start of a cleared byte are that byte's bits, the first to
arrive the most significant; no other byte changes. -/
def Obligations.EightBitsAssembleByteMsbFirst : Prop :=
  ∀ (s : State) (i : Nat) (bits : List Bool), i < 5 → bits.length = 8 → s.fb.wf = true →
    s.bitidx.toNat = 8 * i → s.frameByte i = 0 →
    ∃ t, receiveBits bits s = .next t ∧ t.bitidx.toNat = 8 * i + 8 ∧ t.fb.wf = true ∧
      wireBits (t.frameByte i) = bits ∧ ∀ j, j ≠ i → t.frameByte j = s.frameByte j

/-- R243, E6 of 95_test_vectors.md: a frame with a right checksum becomes a `ChecksumError` when any single bit of byte 4
is flipped. -/
def Obligations.FlippedChecksumBitIsDetected : Prop :=
  ∀ (s s' : State) (k : Nat), k < 8 → s.checksum = (s.frameByte 4).toNat →
    (∀ j, j < 4 → s'.frameByte j = s.frameByte j) → s'.frameByte 4 = s.frameByte 4 ^^^ (1#8 <<< k) →
    ∃ t, exec .pValidate s' = .next t ∧ t.err = .checksumError ∧ t.okFlag = false ∧ t.doneFlag = true ∧
      t.reading = s'.reading

/-! ## Failure exit and reset -/

/-- R247: what the failure exit writes; everything else is as it was. -/
def Obligations.FailureExitWritesResultLineAndPhase : Prop :=
  ∀ (e : ErrorKind) (s : State), failureExit e s =
    { s with
      err := e, okFlag := false, doneFlag := true, owned := false, mode := .input, phase := .idle, begun := false }

/-- R40: the reset values. -/
def Obligations.ResetStateHasSpecValues : Prop :=
  State.reset.cnt = 0 ∧ State.reset.owned = false ∧ State.reset.mode = .input ∧ State.reset.out = .high ∧
  State.reset.phase = .idle ∧ State.reset.bitidx = 0 ∧ State.reset.sReg = 0 ∧ State.reset.nReg = 0 ∧
  State.reset.dnReg = 0 ∧ (∀ i, State.reset.frameByte i = 0) ∧
  State.reset.reading = { pi := 0, pf := 0, si := 0, sf := 0 } ∧ State.reset.doneFlag = false ∧
  State.reset.okFlag = false ∧ State.reset.initFlag = false ∧ State.reset.cmderrFlag = false ∧
  State.reset.err = .noError ∧ State.reset.arg = 0 ∧ State.reset.result = 0 ∧ State.reset.handle = 0 ∧
  State.reset.status = 0 ∧ State.reset.lstate = .idle

/-- R280, R281: while `rst = 1` every step leaves every register of the block at its reset value, from whatever state,
and a host read answers 0. The inputs, the parameters and the place in the instant are not the block's registers. -/
def Obligations.ResetPinForcesResetValues : Prop :=
  ∀ s : State, s.inReset = true → ∃ t, step s = .next t ∧
    t = { State.reset with
      params := s.params, sensor := t.sensor, rst := t.rst, hostProg := t.hostProg, hrdata := t.hrdata
      stage := t.stage } ∧
    ∀ v, t.hrdata = some v → v = 0

/-! ## Counter laws -/

/-- R134: a snapshot taken at tick `t0` and queried at `t1` answers the ticks between modulo 2^32, divided; within one
period of the counter that is the true time. -/
def Obligations.ElapsedIsTrueTimeWithinOnePeriod : Prop :=
  ∀ (s : State) (t0 t1 : Nat), t0 ≤ t1 → s.cnt = BitVec.ofNat 32 t1 →
    (s.elapsedUs (BitVec.ofNat 32 t0)).toNat = ((t1 - t0) % 2 ^ 32) / s.params.ticksPerUs ∧
    (t1 - t0 < 2 ^ 32 →
      (s.elapsedUs (BitVec.ofNat 32 t0)).toNat = (t1 - t0) / s.params.ticksPerUs)

/-- R134, R288, U11: a wait of more than `(2^32 - 1) div TICKS_PER_US` microseconds is over in no state; so a host delay
with such an operand is never left by the sequencer. -/
def Obligations.OverlongDelayNeverEnds : Prop :=
  ∀ s t : State, s.inReset = false → s.issue = none → s.phase = .hostDelay →
    (2 ^ 32 - 1) / s.params.ticksPerUs < s.dnReg.toNat → step s = .next t →
    t.phase = .hostDelay ∧ t.dnReg = s.dnReg ∧ t.params = s.params

/-! ## Invariants of every run -/

/-- R40, R41: the machine right after reset, in any environment and with any parameters for which `N` can count to
`T_TIMEOUT_US` (R25), has the invariant. -/
def Obligations.BootStateHasMachineInv : Prop :=
  ∀ (p : Params) (sensor : Wave Level) (rst : Wave Bool) (host : List HostStmt), p.timeoutLegal = true →
    MachineInv (bootState p sensor rst host)

/-- R41, R130 between any two steps: every step from a state with the invariant leads to one. -/
def Obligations.StepKeepsMachineInv : Prop :=
  ∀ s t : State, MachineInv s → step s = .next t → MachineInv t

/-- R155, R285: from a state with the invariant no step faults or is refused: both `require` clauses of the Line Driver
hold at every issue, and no shift leaves the frame buffer. -/
def Obligations.InvariantStateNeverStops : Prop :=
  ∀ s : State, MachineInv s → ∃ t, step s = .next t

/-- R41: the eight invariants hold in every reachable state at quiescence, with the constants of R6 at the document's values
and the parameters of R7 and R8 at any legal ones. -/
def Obligations.ReachableQuiescentStatesAreSound : Prop :=
  ∀ s : State, Reachable s → s.params.documented = true → s.quiescent = true → QuiescentInv s

/-- R27, R224: outside reset `READING` changes only by `P.VALIDATE`, whole, from a frame that is in range, together with
`OK`, `DONE` and `ERR`. -/
def Obligations.ReadingChangesOnlyOnSuccess : Prop :=
  ∀ s t : State, s.inReset = false → step s = .next t → t.reading ≠ s.reading →
    s.fetch = some (.p 9) ∧
    t.reading = { pi := s.frameByte 0, pf := s.frameByte 1, si := s.frameByte 2, sf := s.frameByte 3 } ∧
    t.reading.pi.toNat ≤ s.params.primaryMax ∧ t.reading.si.toNat ≤ s.params.secondaryMax ∧ t.okFlag = true ∧
    t.doneFlag = true ∧ t.err = .noError ∧ t.phase = .idle

/-- R68 (c): the terminal update is one step: where `DONE` becomes 1, the sequencer is in `Idle`, the line unowned and
released, and the result is a success with its Reading, or a failure with its kind and the old Reading. -/
def Obligations.TerminalUpdateIsOneStep : Prop :=
  ∀ s t : State, MachineInv s → s.inReset = false → step s = .next t → s.doneFlag = false → t.doneFlag = true →
    t.phase = .idle ∧ t.owned = false ∧ t.mode = .input ∧
    ((t.okFlag = true ∧ t.err = .noError ∧
        t.reading = { pi := s.frameByte 0, pf := s.frameByte 1, si := s.frameByte 2, sf := s.frameByte 3 }) ∨
      (t.okFlag = false ∧ t.err ≠ .noError ∧ t.reading = s.reading))

/-- R23, R170, R185: outside reset `PHASE` moves only along the edges of the hardwired sequence, its failure exits and the
host delay. -/
def Obligations.PhaseMovesAlongTheSequence : Prop :=
  ∀ s t : State, MachineInv s → s.inReset = false → step s = .next t → t.phase ≠ s.phase →
    (s.phase, t.phase) ∈ phaseEdges

/-! ## Runs in time -/

/-- R133, R136, R294: a host delay of `n` microseconds within the counter's range, just accepted, stays in `HostDelay` up
to its last step and reaches `Idle` exactly `us(n)` ticks later, whatever the host does meanwhile. -/
def Obligations.HostDelayLastsExactlyItsOperand : Prop :=
  ∀ s : State, s.phase = .hostDelay → s.begun = false → s.sReg = s.cnt → s.issue = none → s.rst = [] →
    0 < s.params.ticksPerUs → s.dnReg.toNat ≤ (2 ^ 32 - 1) / s.params.ticksPerUs →
    ∃ (k : Nat) (t : State), Reaches s k t ∧ t.phase = .idle ∧ t.time = s.time + s.params.us s.dnReg.toNat ∧
      ∀ j, j < k → ∃ u, Reaches s j u ∧ u.phase = .hostDelay

/-- R175, R171, R240: at the release instant, with `SENSOR` High at all 101 sample instants, the transaction ends in
`NoResponse` exactly 100 µs later, `BITIDX` 0 and `READING` as it was. -/
def Obligations.SilentLineEndsInNoResponse : Prop :=
  ∀ s : State, MachineInv s → s.phase = .respWait → s.begun = false → s.issue = none → s.rst = [] →
    s.params.legal = true → s.params.documented = true → s.params.holdsEnd = true →
    (∀ j, j ≤ 100 → s.sensorAt (s.params.us j) = .high) →
    ∃ (k : Nat) (t : State), Reaches s k t ∧ t.phase = .idle ∧ t.err = .noResponse ∧ t.doneFlag = true ∧
      t.okFlag = false ∧ t.bitidx = 0 ∧ t.reading = s.reading ∧ t.time = s.time + s.params.us 100

/-- R175, R171: at the release instant, with the line first Low at the sample `d` microseconds later, `d` at most 100, the
wait for the response passes exactly then: the boundary case `d = 100` passes. -/
def Obligations.ResponseIsSeenAtItsFirstLowSample : Prop :=
  ∀ (s : State) (d : Nat), MachineInv s → s.phase = .respWait → s.begun = false → s.issue = none → s.rst = [] →
    s.params.legal = true → s.params.documented = true → s.params.holdsEnd = true → d ≤ 100 →
    (∀ j, j < d → s.sensorAt (s.params.us j) = .high) → s.sensorAt (s.params.us d) = .low →
    ∃ (k : Nat) (t : State), Reaches s k t ∧ t.phase = .respLow ∧ t.begun = false ∧ t.doneFlag = false ∧
      t.time = s.time + s.params.us d

/-- R188, R294: whatever the sensor and the host do, an accepted transaction that is not reset ends within the two start
holds and 9900 µs (29930 µs with the defaults of R7). -/
def Obligations.TransactionEndsWithinBound : Prop :=
  ∀ s : State, MachineInv s → s.phase = .startLow → s.begun = false → s.issue = none → s.rst = [] →
    s.params.legal = true → s.params.documented = true → s.params.holdsEnd = true →
    ∃ (k : Nat) (t : State), Reaches s k t ∧ t.phase = .idle ∧ t.doneFlag = true ∧
      t.time ≤ s.time + s.params.us (s.params.startLowUs + s.params.startHighUs + 9900)

/-- R184 (E5 of 95_test_vectors.md): for the nominal trace (R106) of any five bytes with a right checksum and in range, a
transaction just accepted ends in success with the Reading of the first four bytes, whatever the host does
meanwhile. -/
def Obligations.NominalFrameIsDelivered : Prop :=
  ∀ (s : State) (b0 b1 b2 b3 b4 : Byte), MachineInv s → s.phase = .startLow → s.begun = false → s.issue = none →
    s.rst = [] → s.fb = [] → s.params.legal = true → s.params.documented = true → s.params.holdsEnd = true →
    s.sensor = transactionWave s.params b0 b1 b2 b3 b4 →
    (b0.toNat + b1.toNat + b2.toNat + b3.toNat) % 256 = b4.toNat → b0.toNat ≤ 100 → b2.toNat ≤ 85 →
    ∃ (k : Nat) (t : State), Reaches s k t ∧ t.phase = .idle ∧ t.doneFlag = true ∧ t.okFlag = true ∧
      t.err = .noError ∧ t.reading = { pi := b0, pf := b1, si := b2, sf := b3 }
end

