-- ==== Sys2Proof/Laws/State.lean ====
section
/-! SUPPORT. One lemma per field per named update of the state, so that no later proof unfolds an update. -/

namespace Sys2Proof.Machine

/-! ### setMode -/

@[simp] theorem setMode_cnt (m : Mode) (s : State) : (setMode m s).cnt = s.cnt := rfl
@[simp] theorem setMode_time (m : Mode) (s : State) : (setMode m s).time = s.time := rfl
@[simp] theorem setMode_owned (m : Mode) (s : State) : (setMode m s).owned = s.owned := rfl
@[simp] theorem setMode_mode (m : Mode) (s : State) : (setMode m s).mode = m := rfl
@[simp] theorem setMode_out (m : Mode) (s : State) : (setMode m s).out = s.out := rfl
@[simp] theorem setMode_phase (m : Mode) (s : State) : (setMode m s).phase = s.phase := rfl
@[simp] theorem setMode_bitidx (m : Mode) (s : State) : (setMode m s).bitidx = s.bitidx := rfl
@[simp] theorem setMode_sReg (m : Mode) (s : State) : (setMode m s).sReg = s.sReg := rfl
@[simp] theorem setMode_nReg (m : Mode) (s : State) : (setMode m s).nReg = s.nReg := rfl
@[simp] theorem setMode_dnReg (m : Mode) (s : State) : (setMode m s).dnReg = s.dnReg := rfl
@[simp] theorem setMode_fb (m : Mode) (s : State) : (setMode m s).fb = s.fb := rfl
@[simp] theorem setMode_reading (m : Mode) (s : State) : (setMode m s).reading = s.reading := rfl
@[simp] theorem setMode_doneFlag (m : Mode) (s : State) : (setMode m s).doneFlag = s.doneFlag := rfl
@[simp] theorem setMode_okFlag (m : Mode) (s : State) : (setMode m s).okFlag = s.okFlag := rfl
@[simp] theorem setMode_initFlag (m : Mode) (s : State) : (setMode m s).initFlag = s.initFlag := rfl
@[simp] theorem setMode_cmderrFlag (m : Mode) (s : State) : (setMode m s).cmderrFlag = s.cmderrFlag := rfl
@[simp] theorem setMode_err (m : Mode) (s : State) : (setMode m s).err = s.err := rfl
@[simp] theorem setMode_arg (m : Mode) (s : State) : (setMode m s).arg = s.arg := rfl
@[simp] theorem setMode_result (m : Mode) (s : State) : (setMode m s).result = s.result := rfl
@[simp] theorem setMode_handle (m : Mode) (s : State) : (setMode m s).handle = s.handle := rfl
@[simp] theorem setMode_hrdata (m : Mode) (s : State) : (setMode m s).hrdata = s.hrdata := rfl
@[simp] theorem setMode_sensor (m : Mode) (s : State) : (setMode m s).sensor = s.sensor := rfl
@[simp] theorem setMode_rst (m : Mode) (s : State) : (setMode m s).rst = s.rst := rfl
@[simp] theorem setMode_hostProg (m : Mode) (s : State) : (setMode m s).hostProg = s.hostProg := rfl
@[simp] theorem setMode_params (m : Mode) (s : State) : (setMode m s).params = s.params := rfl
@[simp] theorem setMode_begun (m : Mode) (s : State) : (setMode m s).begun = s.begun := rfl
@[simp] theorem setMode_stage (m : Mode) (s : State) : (setMode m s).stage = s.stage := rfl
@[simp] theorem setMode_issue (m : Mode) (s : State) : (setMode m s).issue = s.issue := rfl
@[simp] theorem setMode_sample (m : Mode) (s : State) : (setMode m s).sample = s.sample := rfl

/-! ### gotoPhase -/

@[simp] theorem gotoPhase_cnt (p : Phase) (s : State) : (gotoPhase p s).cnt = s.cnt := rfl
@[simp] theorem gotoPhase_time (p : Phase) (s : State) : (gotoPhase p s).time = s.time := rfl
@[simp] theorem gotoPhase_owned (p : Phase) (s : State) : (gotoPhase p s).owned = s.owned := rfl
@[simp] theorem gotoPhase_mode (p : Phase) (s : State) : (gotoPhase p s).mode = s.mode := rfl
@[simp] theorem gotoPhase_out (p : Phase) (s : State) : (gotoPhase p s).out = s.out := rfl
@[simp] theorem gotoPhase_phase (p : Phase) (s : State) : (gotoPhase p s).phase = p := rfl
@[simp] theorem gotoPhase_bitidx (p : Phase) (s : State) : (gotoPhase p s).bitidx = s.bitidx := rfl
@[simp] theorem gotoPhase_sReg (p : Phase) (s : State) : (gotoPhase p s).sReg = s.sReg := rfl
@[simp] theorem gotoPhase_nReg (p : Phase) (s : State) : (gotoPhase p s).nReg = s.nReg := rfl
@[simp] theorem gotoPhase_dnReg (p : Phase) (s : State) : (gotoPhase p s).dnReg = s.dnReg := rfl
@[simp] theorem gotoPhase_fb (p : Phase) (s : State) : (gotoPhase p s).fb = s.fb := rfl
@[simp] theorem gotoPhase_reading (p : Phase) (s : State) : (gotoPhase p s).reading = s.reading := rfl
@[simp] theorem gotoPhase_doneFlag (p : Phase) (s : State) : (gotoPhase p s).doneFlag = s.doneFlag := rfl
@[simp] theorem gotoPhase_okFlag (p : Phase) (s : State) : (gotoPhase p s).okFlag = s.okFlag := rfl
@[simp] theorem gotoPhase_initFlag (p : Phase) (s : State) : (gotoPhase p s).initFlag = s.initFlag := rfl
@[simp] theorem gotoPhase_cmderrFlag (p : Phase) (s : State) : (gotoPhase p s).cmderrFlag = s.cmderrFlag := rfl
@[simp] theorem gotoPhase_err (p : Phase) (s : State) : (gotoPhase p s).err = s.err := rfl
@[simp] theorem gotoPhase_arg (p : Phase) (s : State) : (gotoPhase p s).arg = s.arg := rfl
@[simp] theorem gotoPhase_result (p : Phase) (s : State) : (gotoPhase p s).result = s.result := rfl
@[simp] theorem gotoPhase_handle (p : Phase) (s : State) : (gotoPhase p s).handle = s.handle := rfl
@[simp] theorem gotoPhase_hrdata (p : Phase) (s : State) : (gotoPhase p s).hrdata = s.hrdata := rfl
@[simp] theorem gotoPhase_sensor (p : Phase) (s : State) : (gotoPhase p s).sensor = s.sensor := rfl
@[simp] theorem gotoPhase_rst (p : Phase) (s : State) : (gotoPhase p s).rst = s.rst := rfl
@[simp] theorem gotoPhase_hostProg (p : Phase) (s : State) : (gotoPhase p s).hostProg = s.hostProg := rfl
@[simp] theorem gotoPhase_params (p : Phase) (s : State) : (gotoPhase p s).params = s.params := rfl
@[simp] theorem gotoPhase_begun (p : Phase) (s : State) : (gotoPhase p s).begun = false := rfl
@[simp] theorem gotoPhase_stage (p : Phase) (s : State) : (gotoPhase p s).stage = s.stage := rfl
@[simp] theorem gotoPhase_issue (p : Phase) (s : State) : (gotoPhase p s).issue = s.issue := rfl
@[simp] theorem gotoPhase_sample (p : Phase) (s : State) : (gotoPhase p s).sample = s.sample := rfl

/-! ### beginDelay -/

@[simp] theorem beginDelay_cnt (p : Phase) (s : State) : (beginDelay p s).cnt = s.cnt := rfl
@[simp] theorem beginDelay_time (p : Phase) (s : State) : (beginDelay p s).time = s.time := rfl
@[simp] theorem beginDelay_owned (p : Phase) (s : State) : (beginDelay p s).owned = s.owned := rfl
@[simp] theorem beginDelay_mode (p : Phase) (s : State) : (beginDelay p s).mode = s.mode := rfl
@[simp] theorem beginDelay_out (p : Phase) (s : State) : (beginDelay p s).out = s.out := rfl
@[simp] theorem beginDelay_phase (p : Phase) (s : State) : (beginDelay p s).phase = p := rfl
@[simp] theorem beginDelay_bitidx (p : Phase) (s : State) : (beginDelay p s).bitidx = s.bitidx := rfl
@[simp] theorem beginDelay_sReg (p : Phase) (s : State) : (beginDelay p s).sReg = s.cnt := rfl
@[simp] theorem beginDelay_nReg (p : Phase) (s : State) : (beginDelay p s).nReg = s.nReg := rfl
@[simp] theorem beginDelay_dnReg (p : Phase) (s : State) : (beginDelay p s).dnReg = s.dnReg := rfl
@[simp] theorem beginDelay_fb (p : Phase) (s : State) : (beginDelay p s).fb = s.fb := rfl
@[simp] theorem beginDelay_reading (p : Phase) (s : State) : (beginDelay p s).reading = s.reading := rfl
@[simp] theorem beginDelay_doneFlag (p : Phase) (s : State) : (beginDelay p s).doneFlag = s.doneFlag := rfl
@[simp] theorem beginDelay_okFlag (p : Phase) (s : State) : (beginDelay p s).okFlag = s.okFlag := rfl
@[simp] theorem beginDelay_initFlag (p : Phase) (s : State) : (beginDelay p s).initFlag = s.initFlag := rfl
@[simp] theorem beginDelay_cmderrFlag (p : Phase) (s : State) : (beginDelay p s).cmderrFlag = s.cmderrFlag := rfl
@[simp] theorem beginDelay_err (p : Phase) (s : State) : (beginDelay p s).err = s.err := rfl
@[simp] theorem beginDelay_arg (p : Phase) (s : State) : (beginDelay p s).arg = s.arg := rfl
@[simp] theorem beginDelay_result (p : Phase) (s : State) : (beginDelay p s).result = s.result := rfl
@[simp] theorem beginDelay_handle (p : Phase) (s : State) : (beginDelay p s).handle = s.handle := rfl
@[simp] theorem beginDelay_hrdata (p : Phase) (s : State) : (beginDelay p s).hrdata = s.hrdata := rfl
@[simp] theorem beginDelay_sensor (p : Phase) (s : State) : (beginDelay p s).sensor = s.sensor := rfl
@[simp] theorem beginDelay_rst (p : Phase) (s : State) : (beginDelay p s).rst = s.rst := rfl
@[simp] theorem beginDelay_hostProg (p : Phase) (s : State) : (beginDelay p s).hostProg = s.hostProg := rfl
@[simp] theorem beginDelay_params (p : Phase) (s : State) : (beginDelay p s).params = s.params := rfl
@[simp] theorem beginDelay_begun (p : Phase) (s : State) : (beginDelay p s).begun = true := rfl
@[simp] theorem beginDelay_stage (p : Phase) (s : State) : (beginDelay p s).stage = s.stage := rfl
@[simp] theorem beginDelay_issue (p : Phase) (s : State) : (beginDelay p s).issue = s.issue := rfl
@[simp] theorem beginDelay_sample (p : Phase) (s : State) : (beginDelay p s).sample = s.sample := rfl

/-! ### beginWait -/

@[simp] theorem beginWait_cnt (p : Phase) (s : State) : (beginWait p s).cnt = s.cnt := rfl
@[simp] theorem beginWait_time (p : Phase) (s : State) : (beginWait p s).time = s.time := rfl
@[simp] theorem beginWait_owned (p : Phase) (s : State) : (beginWait p s).owned = s.owned := rfl
@[simp] theorem beginWait_mode (p : Phase) (s : State) : (beginWait p s).mode = s.mode := rfl
@[simp] theorem beginWait_out (p : Phase) (s : State) : (beginWait p s).out = s.out := rfl
@[simp] theorem beginWait_phase (p : Phase) (s : State) : (beginWait p s).phase = p := rfl
@[simp] theorem beginWait_bitidx (p : Phase) (s : State) : (beginWait p s).bitidx = s.bitidx := rfl
@[simp] theorem beginWait_sReg (p : Phase) (s : State) : (beginWait p s).sReg = s.cnt := rfl
@[simp] theorem beginWait_nReg (p : Phase) (s : State) : (beginWait p s).nReg = 0 := rfl
@[simp] theorem beginWait_dnReg (p : Phase) (s : State) : (beginWait p s).dnReg = s.dnReg := rfl
@[simp] theorem beginWait_fb (p : Phase) (s : State) : (beginWait p s).fb = s.fb := rfl
@[simp] theorem beginWait_reading (p : Phase) (s : State) : (beginWait p s).reading = s.reading := rfl
@[simp] theorem beginWait_doneFlag (p : Phase) (s : State) : (beginWait p s).doneFlag = s.doneFlag := rfl
@[simp] theorem beginWait_okFlag (p : Phase) (s : State) : (beginWait p s).okFlag = s.okFlag := rfl
@[simp] theorem beginWait_initFlag (p : Phase) (s : State) : (beginWait p s).initFlag = s.initFlag := rfl
@[simp] theorem beginWait_cmderrFlag (p : Phase) (s : State) : (beginWait p s).cmderrFlag = s.cmderrFlag := rfl
@[simp] theorem beginWait_err (p : Phase) (s : State) : (beginWait p s).err = s.err := rfl
@[simp] theorem beginWait_arg (p : Phase) (s : State) : (beginWait p s).arg = s.arg := rfl
@[simp] theorem beginWait_result (p : Phase) (s : State) : (beginWait p s).result = s.result := rfl
@[simp] theorem beginWait_handle (p : Phase) (s : State) : (beginWait p s).handle = s.handle := rfl
@[simp] theorem beginWait_hrdata (p : Phase) (s : State) : (beginWait p s).hrdata = s.hrdata := rfl
@[simp] theorem beginWait_sensor (p : Phase) (s : State) : (beginWait p s).sensor = s.sensor := rfl
@[simp] theorem beginWait_rst (p : Phase) (s : State) : (beginWait p s).rst = s.rst := rfl
@[simp] theorem beginWait_hostProg (p : Phase) (s : State) : (beginWait p s).hostProg = s.hostProg := rfl
@[simp] theorem beginWait_params (p : Phase) (s : State) : (beginWait p s).params = s.params := rfl
@[simp] theorem beginWait_begun (p : Phase) (s : State) : (beginWait p s).begun = true := rfl
@[simp] theorem beginWait_stage (p : Phase) (s : State) : (beginWait p s).stage = s.stage := rfl
@[simp] theorem beginWait_issue (p : Phase) (s : State) : (beginWait p s).issue = s.issue := rfl
@[simp] theorem beginWait_sample (p : Phase) (s : State) : (beginWait p s).sample = s.sample := rfl

/-! ### countPoll -/

@[simp] theorem countPoll_cnt (s : State) : (countPoll s).cnt = s.cnt := rfl
@[simp] theorem countPoll_time (s : State) : (countPoll s).time = s.time := rfl
@[simp] theorem countPoll_owned (s : State) : (countPoll s).owned = s.owned := rfl
@[simp] theorem countPoll_mode (s : State) : (countPoll s).mode = s.mode := rfl
@[simp] theorem countPoll_out (s : State) : (countPoll s).out = s.out := rfl
@[simp] theorem countPoll_phase (s : State) : (countPoll s).phase = s.phase := rfl
@[simp] theorem countPoll_bitidx (s : State) : (countPoll s).bitidx = s.bitidx := rfl
@[simp] theorem countPoll_sReg (s : State) : (countPoll s).sReg = s.sReg := rfl
@[simp] theorem countPoll_nReg (s : State) : (countPoll s).nReg = s.nReg + 1 := rfl
@[simp] theorem countPoll_dnReg (s : State) : (countPoll s).dnReg = s.dnReg := rfl
@[simp] theorem countPoll_fb (s : State) : (countPoll s).fb = s.fb := rfl
@[simp] theorem countPoll_reading (s : State) : (countPoll s).reading = s.reading := rfl
@[simp] theorem countPoll_doneFlag (s : State) : (countPoll s).doneFlag = s.doneFlag := rfl
@[simp] theorem countPoll_okFlag (s : State) : (countPoll s).okFlag = s.okFlag := rfl
@[simp] theorem countPoll_initFlag (s : State) : (countPoll s).initFlag = s.initFlag := rfl
@[simp] theorem countPoll_cmderrFlag (s : State) : (countPoll s).cmderrFlag = s.cmderrFlag := rfl
@[simp] theorem countPoll_err (s : State) : (countPoll s).err = s.err := rfl
@[simp] theorem countPoll_arg (s : State) : (countPoll s).arg = s.arg := rfl
@[simp] theorem countPoll_result (s : State) : (countPoll s).result = s.result := rfl
@[simp] theorem countPoll_handle (s : State) : (countPoll s).handle = s.handle := rfl
@[simp] theorem countPoll_hrdata (s : State) : (countPoll s).hrdata = s.hrdata := rfl
@[simp] theorem countPoll_sensor (s : State) : (countPoll s).sensor = s.sensor := rfl
@[simp] theorem countPoll_rst (s : State) : (countPoll s).rst = s.rst := rfl
@[simp] theorem countPoll_hostProg (s : State) : (countPoll s).hostProg = s.hostProg := rfl
@[simp] theorem countPoll_params (s : State) : (countPoll s).params = s.params := rfl
@[simp] theorem countPoll_begun (s : State) : (countPoll s).begun = s.begun := rfl
@[simp] theorem countPoll_stage (s : State) : (countPoll s).stage = s.stage := rfl
@[simp] theorem countPoll_issue (s : State) : (countPoll s).issue = s.issue := rfl
@[simp] theorem countPoll_sample (s : State) : (countPoll s).sample = s.sample := rfl

/-! ### completeBit -/

@[simp] theorem completeBit_cnt (s : State) : (completeBit s).cnt = s.cnt := rfl
@[simp] theorem completeBit_time (s : State) : (completeBit s).time = s.time := rfl
@[simp] theorem completeBit_owned (s : State) : (completeBit s).owned = s.owned := rfl
@[simp] theorem completeBit_mode (s : State) : (completeBit s).mode = s.mode := rfl
@[simp] theorem completeBit_out (s : State) : (completeBit s).out = s.out := rfl
@[simp] theorem completeBit_phase (s : State) : (completeBit s).phase = s.phase := rfl
@[simp] theorem completeBit_bitidx (s : State) : (completeBit s).bitidx = s.bitidx + 1 := rfl
@[simp] theorem completeBit_sReg (s : State) : (completeBit s).sReg = s.sReg := rfl
@[simp] theorem completeBit_nReg (s : State) : (completeBit s).nReg = s.nReg := rfl
@[simp] theorem completeBit_dnReg (s : State) : (completeBit s).dnReg = s.dnReg := rfl
@[simp] theorem completeBit_fb (s : State) : (completeBit s).fb = s.fb := rfl
@[simp] theorem completeBit_reading (s : State) : (completeBit s).reading = s.reading := rfl
@[simp] theorem completeBit_doneFlag (s : State) : (completeBit s).doneFlag = s.doneFlag := rfl
@[simp] theorem completeBit_okFlag (s : State) : (completeBit s).okFlag = s.okFlag := rfl
@[simp] theorem completeBit_initFlag (s : State) : (completeBit s).initFlag = s.initFlag := rfl
@[simp] theorem completeBit_cmderrFlag (s : State) : (completeBit s).cmderrFlag = s.cmderrFlag := rfl
@[simp] theorem completeBit_err (s : State) : (completeBit s).err = s.err := rfl
@[simp] theorem completeBit_arg (s : State) : (completeBit s).arg = s.arg := rfl
@[simp] theorem completeBit_result (s : State) : (completeBit s).result = s.result := rfl
@[simp] theorem completeBit_handle (s : State) : (completeBit s).handle = s.handle := rfl
@[simp] theorem completeBit_hrdata (s : State) : (completeBit s).hrdata = s.hrdata := rfl
@[simp] theorem completeBit_sensor (s : State) : (completeBit s).sensor = s.sensor := rfl
@[simp] theorem completeBit_rst (s : State) : (completeBit s).rst = s.rst := rfl
@[simp] theorem completeBit_hostProg (s : State) : (completeBit s).hostProg = s.hostProg := rfl
@[simp] theorem completeBit_params (s : State) : (completeBit s).params = s.params := rfl
@[simp] theorem completeBit_begun (s : State) : (completeBit s).begun = s.begun := rfl
@[simp] theorem completeBit_stage (s : State) : (completeBit s).stage = s.stage := rfl
@[simp] theorem completeBit_issue (s : State) : (completeBit s).issue = s.issue := rfl
@[simp] theorem completeBit_sample (s : State) : (completeBit s).sample = s.sample := rfl

/-! ### clearFrame -/

@[simp] theorem clearFrame_cnt (s : State) : (clearFrame s).cnt = s.cnt := rfl
@[simp] theorem clearFrame_time (s : State) : (clearFrame s).time = s.time := rfl
@[simp] theorem clearFrame_owned (s : State) : (clearFrame s).owned = s.owned := rfl
@[simp] theorem clearFrame_mode (s : State) : (clearFrame s).mode = s.mode := rfl
@[simp] theorem clearFrame_out (s : State) : (clearFrame s).out = s.out := rfl
@[simp] theorem clearFrame_phase (s : State) : (clearFrame s).phase = s.phase := rfl
@[simp] theorem clearFrame_bitidx (s : State) : (clearFrame s).bitidx = 0 := rfl
@[simp] theorem clearFrame_sReg (s : State) : (clearFrame s).sReg = s.sReg := rfl
@[simp] theorem clearFrame_nReg (s : State) : (clearFrame s).nReg = s.nReg := rfl
@[simp] theorem clearFrame_dnReg (s : State) : (clearFrame s).dnReg = s.dnReg := rfl
@[simp] theorem clearFrame_fb (s : State) : (clearFrame s).fb = [] := rfl
@[simp] theorem clearFrame_reading (s : State) : (clearFrame s).reading = s.reading := rfl
@[simp] theorem clearFrame_doneFlag (s : State) : (clearFrame s).doneFlag = s.doneFlag := rfl
@[simp] theorem clearFrame_okFlag (s : State) : (clearFrame s).okFlag = s.okFlag := rfl
@[simp] theorem clearFrame_initFlag (s : State) : (clearFrame s).initFlag = s.initFlag := rfl
@[simp] theorem clearFrame_cmderrFlag (s : State) : (clearFrame s).cmderrFlag = s.cmderrFlag := rfl
@[simp] theorem clearFrame_err (s : State) : (clearFrame s).err = s.err := rfl
@[simp] theorem clearFrame_arg (s : State) : (clearFrame s).arg = s.arg := rfl
@[simp] theorem clearFrame_result (s : State) : (clearFrame s).result = s.result := rfl
@[simp] theorem clearFrame_handle (s : State) : (clearFrame s).handle = s.handle := rfl
@[simp] theorem clearFrame_hrdata (s : State) : (clearFrame s).hrdata = s.hrdata := rfl
@[simp] theorem clearFrame_sensor (s : State) : (clearFrame s).sensor = s.sensor := rfl
@[simp] theorem clearFrame_rst (s : State) : (clearFrame s).rst = s.rst := rfl
@[simp] theorem clearFrame_hostProg (s : State) : (clearFrame s).hostProg = s.hostProg := rfl
@[simp] theorem clearFrame_params (s : State) : (clearFrame s).params = s.params := rfl
@[simp] theorem clearFrame_begun (s : State) : (clearFrame s).begun = s.begun := rfl
@[simp] theorem clearFrame_stage (s : State) : (clearFrame s).stage = s.stage := rfl
@[simp] theorem clearFrame_issue (s : State) : (clearFrame s).issue = s.issue := rfl
@[simp] theorem clearFrame_sample (s : State) : (clearFrame s).sample = s.sample := rfl

/-! ### takeLine -/

@[simp] theorem takeLine_cnt (s : State) : (takeLine s).cnt = s.cnt := rfl
@[simp] theorem takeLine_time (s : State) : (takeLine s).time = s.time := rfl
@[simp] theorem takeLine_owned (s : State) : (takeLine s).owned = true := rfl
@[simp] theorem takeLine_mode (s : State) : (takeLine s).mode = s.mode := rfl
@[simp] theorem takeLine_out (s : State) : (takeLine s).out = s.out := rfl
@[simp] theorem takeLine_phase (s : State) : (takeLine s).phase = s.phase := rfl
@[simp] theorem takeLine_bitidx (s : State) : (takeLine s).bitidx = s.bitidx := rfl
@[simp] theorem takeLine_sReg (s : State) : (takeLine s).sReg = s.sReg := rfl
@[simp] theorem takeLine_nReg (s : State) : (takeLine s).nReg = s.nReg := rfl
@[simp] theorem takeLine_dnReg (s : State) : (takeLine s).dnReg = s.dnReg := rfl
@[simp] theorem takeLine_fb (s : State) : (takeLine s).fb = s.fb := rfl
@[simp] theorem takeLine_reading (s : State) : (takeLine s).reading = s.reading := rfl
@[simp] theorem takeLine_doneFlag (s : State) : (takeLine s).doneFlag = s.doneFlag := rfl
@[simp] theorem takeLine_okFlag (s : State) : (takeLine s).okFlag = s.okFlag := rfl
@[simp] theorem takeLine_initFlag (s : State) : (takeLine s).initFlag = s.initFlag := rfl
@[simp] theorem takeLine_cmderrFlag (s : State) : (takeLine s).cmderrFlag = s.cmderrFlag := rfl
@[simp] theorem takeLine_err (s : State) : (takeLine s).err = s.err := rfl
@[simp] theorem takeLine_arg (s : State) : (takeLine s).arg = s.arg := rfl
@[simp] theorem takeLine_result (s : State) : (takeLine s).result = s.result := rfl
@[simp] theorem takeLine_handle (s : State) : (takeLine s).handle = s.handle := rfl
@[simp] theorem takeLine_hrdata (s : State) : (takeLine s).hrdata = s.hrdata := rfl
@[simp] theorem takeLine_sensor (s : State) : (takeLine s).sensor = s.sensor := rfl
@[simp] theorem takeLine_rst (s : State) : (takeLine s).rst = s.rst := rfl
@[simp] theorem takeLine_hostProg (s : State) : (takeLine s).hostProg = s.hostProg := rfl
@[simp] theorem takeLine_params (s : State) : (takeLine s).params = s.params := rfl
@[simp] theorem takeLine_begun (s : State) : (takeLine s).begun = s.begun := rfl
@[simp] theorem takeLine_stage (s : State) : (takeLine s).stage = s.stage := rfl
@[simp] theorem takeLine_issue (s : State) : (takeLine s).issue = s.issue := rfl
@[simp] theorem takeLine_sample (s : State) : (takeLine s).sample = s.sample := rfl

/-! ### releaseLine -/

@[simp] theorem releaseLine_cnt (s : State) : (releaseLine s).cnt = s.cnt := rfl
@[simp] theorem releaseLine_time (s : State) : (releaseLine s).time = s.time := rfl
@[simp] theorem releaseLine_owned (s : State) : (releaseLine s).owned = false := rfl
@[simp] theorem releaseLine_mode (s : State) : (releaseLine s).mode = s.mode := rfl
@[simp] theorem releaseLine_out (s : State) : (releaseLine s).out = s.out := rfl
@[simp] theorem releaseLine_phase (s : State) : (releaseLine s).phase = s.phase := rfl
@[simp] theorem releaseLine_bitidx (s : State) : (releaseLine s).bitidx = s.bitidx := rfl
@[simp] theorem releaseLine_sReg (s : State) : (releaseLine s).sReg = s.sReg := rfl
@[simp] theorem releaseLine_nReg (s : State) : (releaseLine s).nReg = s.nReg := rfl
@[simp] theorem releaseLine_dnReg (s : State) : (releaseLine s).dnReg = s.dnReg := rfl
@[simp] theorem releaseLine_fb (s : State) : (releaseLine s).fb = s.fb := rfl
@[simp] theorem releaseLine_reading (s : State) : (releaseLine s).reading = s.reading := rfl
@[simp] theorem releaseLine_doneFlag (s : State) : (releaseLine s).doneFlag = s.doneFlag := rfl
@[simp] theorem releaseLine_okFlag (s : State) : (releaseLine s).okFlag = s.okFlag := rfl
@[simp] theorem releaseLine_initFlag (s : State) : (releaseLine s).initFlag = s.initFlag := rfl
@[simp] theorem releaseLine_cmderrFlag (s : State) : (releaseLine s).cmderrFlag = s.cmderrFlag := rfl
@[simp] theorem releaseLine_err (s : State) : (releaseLine s).err = s.err := rfl
@[simp] theorem releaseLine_arg (s : State) : (releaseLine s).arg = s.arg := rfl
@[simp] theorem releaseLine_result (s : State) : (releaseLine s).result = s.result := rfl
@[simp] theorem releaseLine_handle (s : State) : (releaseLine s).handle = s.handle := rfl
@[simp] theorem releaseLine_hrdata (s : State) : (releaseLine s).hrdata = s.hrdata := rfl
@[simp] theorem releaseLine_sensor (s : State) : (releaseLine s).sensor = s.sensor := rfl
@[simp] theorem releaseLine_rst (s : State) : (releaseLine s).rst = s.rst := rfl
@[simp] theorem releaseLine_hostProg (s : State) : (releaseLine s).hostProg = s.hostProg := rfl
@[simp] theorem releaseLine_params (s : State) : (releaseLine s).params = s.params := rfl
@[simp] theorem releaseLine_begun (s : State) : (releaseLine s).begun = s.begun := rfl
@[simp] theorem releaseLine_stage (s : State) : (releaseLine s).stage = s.stage := rfl
@[simp] theorem releaseLine_issue (s : State) : (releaseLine s).issue = s.issue := rfl
@[simp] theorem releaseLine_sample (s : State) : (releaseLine s).sample = s.sample := rfl

/-! ### acceptCommand -/

@[simp] theorem acceptCommand_cnt (s : State) : (acceptCommand s).cnt = s.cnt := rfl
@[simp] theorem acceptCommand_time (s : State) : (acceptCommand s).time = s.time := rfl
@[simp] theorem acceptCommand_owned (s : State) : (acceptCommand s).owned = s.owned := rfl
@[simp] theorem acceptCommand_mode (s : State) : (acceptCommand s).mode = s.mode := rfl
@[simp] theorem acceptCommand_out (s : State) : (acceptCommand s).out = s.out := rfl
@[simp] theorem acceptCommand_phase (s : State) : (acceptCommand s).phase = s.phase := rfl
@[simp] theorem acceptCommand_bitidx (s : State) : (acceptCommand s).bitidx = s.bitidx := rfl
@[simp] theorem acceptCommand_sReg (s : State) : (acceptCommand s).sReg = s.sReg := rfl
@[simp] theorem acceptCommand_nReg (s : State) : (acceptCommand s).nReg = s.nReg := rfl
@[simp] theorem acceptCommand_dnReg (s : State) : (acceptCommand s).dnReg = s.dnReg := rfl
@[simp] theorem acceptCommand_fb (s : State) : (acceptCommand s).fb = s.fb := rfl
@[simp] theorem acceptCommand_reading (s : State) : (acceptCommand s).reading = s.reading := rfl
@[simp] theorem acceptCommand_doneFlag (s : State) : (acceptCommand s).doneFlag = s.doneFlag := rfl
@[simp] theorem acceptCommand_okFlag (s : State) : (acceptCommand s).okFlag = s.okFlag := rfl
@[simp] theorem acceptCommand_initFlag (s : State) : (acceptCommand s).initFlag = s.initFlag := rfl
@[simp] theorem acceptCommand_cmderrFlag (s : State) : (acceptCommand s).cmderrFlag = false := rfl
@[simp] theorem acceptCommand_err (s : State) : (acceptCommand s).err = s.err := rfl
@[simp] theorem acceptCommand_arg (s : State) : (acceptCommand s).arg = s.arg := rfl
@[simp] theorem acceptCommand_result (s : State) : (acceptCommand s).result = s.result := rfl
@[simp] theorem acceptCommand_handle (s : State) : (acceptCommand s).handle = s.handle := rfl
@[simp] theorem acceptCommand_hrdata (s : State) : (acceptCommand s).hrdata = s.hrdata := rfl
@[simp] theorem acceptCommand_sensor (s : State) : (acceptCommand s).sensor = s.sensor := rfl
@[simp] theorem acceptCommand_rst (s : State) : (acceptCommand s).rst = s.rst := rfl
@[simp] theorem acceptCommand_hostProg (s : State) : (acceptCommand s).hostProg = s.hostProg := rfl
@[simp] theorem acceptCommand_params (s : State) : (acceptCommand s).params = s.params := rfl
@[simp] theorem acceptCommand_begun (s : State) : (acceptCommand s).begun = s.begun := rfl
@[simp] theorem acceptCommand_stage (s : State) : (acceptCommand s).stage = s.stage := rfl
@[simp] theorem acceptCommand_issue (s : State) : (acceptCommand s).issue = s.issue := rfl
@[simp] theorem acceptCommand_sample (s : State) : (acceptCommand s).sample = s.sample := rfl

/-! ### refuseCommand -/

@[simp] theorem refuseCommand_cnt (s : State) : (refuseCommand s).cnt = s.cnt := rfl
@[simp] theorem refuseCommand_time (s : State) : (refuseCommand s).time = s.time := rfl
@[simp] theorem refuseCommand_owned (s : State) : (refuseCommand s).owned = s.owned := rfl
@[simp] theorem refuseCommand_mode (s : State) : (refuseCommand s).mode = s.mode := rfl
@[simp] theorem refuseCommand_out (s : State) : (refuseCommand s).out = s.out := rfl
@[simp] theorem refuseCommand_phase (s : State) : (refuseCommand s).phase = s.phase := rfl
@[simp] theorem refuseCommand_bitidx (s : State) : (refuseCommand s).bitidx = s.bitidx := rfl
@[simp] theorem refuseCommand_sReg (s : State) : (refuseCommand s).sReg = s.sReg := rfl
@[simp] theorem refuseCommand_nReg (s : State) : (refuseCommand s).nReg = s.nReg := rfl
@[simp] theorem refuseCommand_dnReg (s : State) : (refuseCommand s).dnReg = s.dnReg := rfl
@[simp] theorem refuseCommand_fb (s : State) : (refuseCommand s).fb = s.fb := rfl
@[simp] theorem refuseCommand_reading (s : State) : (refuseCommand s).reading = s.reading := rfl
@[simp] theorem refuseCommand_doneFlag (s : State) : (refuseCommand s).doneFlag = s.doneFlag := rfl
@[simp] theorem refuseCommand_okFlag (s : State) : (refuseCommand s).okFlag = s.okFlag := rfl
@[simp] theorem refuseCommand_initFlag (s : State) : (refuseCommand s).initFlag = s.initFlag := rfl
@[simp] theorem refuseCommand_cmderrFlag (s : State) : (refuseCommand s).cmderrFlag = true := rfl
@[simp] theorem refuseCommand_err (s : State) : (refuseCommand s).err = s.err := rfl
@[simp] theorem refuseCommand_arg (s : State) : (refuseCommand s).arg = s.arg := rfl
@[simp] theorem refuseCommand_result (s : State) : (refuseCommand s).result = s.result := rfl
@[simp] theorem refuseCommand_handle (s : State) : (refuseCommand s).handle = s.handle := rfl
@[simp] theorem refuseCommand_hrdata (s : State) : (refuseCommand s).hrdata = s.hrdata := rfl
@[simp] theorem refuseCommand_sensor (s : State) : (refuseCommand s).sensor = s.sensor := rfl
@[simp] theorem refuseCommand_rst (s : State) : (refuseCommand s).rst = s.rst := rfl
@[simp] theorem refuseCommand_hostProg (s : State) : (refuseCommand s).hostProg = s.hostProg := rfl
@[simp] theorem refuseCommand_params (s : State) : (refuseCommand s).params = s.params := rfl
@[simp] theorem refuseCommand_begun (s : State) : (refuseCommand s).begun = s.begun := rfl
@[simp] theorem refuseCommand_stage (s : State) : (refuseCommand s).stage = s.stage := rfl
@[simp] theorem refuseCommand_issue (s : State) : (refuseCommand s).issue = s.issue := rfl
@[simp] theorem refuseCommand_sample (s : State) : (refuseCommand s).sample = s.sample := rfl

/-! ### clearResult -/

@[simp] theorem clearResult_cnt (s : State) : (clearResult s).cnt = s.cnt := rfl
@[simp] theorem clearResult_time (s : State) : (clearResult s).time = s.time := rfl
@[simp] theorem clearResult_owned (s : State) : (clearResult s).owned = s.owned := rfl
@[simp] theorem clearResult_mode (s : State) : (clearResult s).mode = s.mode := rfl
@[simp] theorem clearResult_out (s : State) : (clearResult s).out = s.out := rfl
@[simp] theorem clearResult_phase (s : State) : (clearResult s).phase = s.phase := rfl
@[simp] theorem clearResult_bitidx (s : State) : (clearResult s).bitidx = s.bitidx := rfl
@[simp] theorem clearResult_sReg (s : State) : (clearResult s).sReg = s.sReg := rfl
@[simp] theorem clearResult_nReg (s : State) : (clearResult s).nReg = s.nReg := rfl
@[simp] theorem clearResult_dnReg (s : State) : (clearResult s).dnReg = s.dnReg := rfl
@[simp] theorem clearResult_fb (s : State) : (clearResult s).fb = s.fb := rfl
@[simp] theorem clearResult_reading (s : State) : (clearResult s).reading = s.reading := rfl
@[simp] theorem clearResult_doneFlag (s : State) : (clearResult s).doneFlag = false := rfl
@[simp] theorem clearResult_okFlag (s : State) : (clearResult s).okFlag = false := rfl
@[simp] theorem clearResult_initFlag (s : State) : (clearResult s).initFlag = s.initFlag := rfl
@[simp] theorem clearResult_cmderrFlag (s : State) : (clearResult s).cmderrFlag = s.cmderrFlag := rfl
@[simp] theorem clearResult_err (s : State) : (clearResult s).err = .noError := rfl
@[simp] theorem clearResult_arg (s : State) : (clearResult s).arg = s.arg := rfl
@[simp] theorem clearResult_result (s : State) : (clearResult s).result = s.result := rfl
@[simp] theorem clearResult_handle (s : State) : (clearResult s).handle = s.handle := rfl
@[simp] theorem clearResult_hrdata (s : State) : (clearResult s).hrdata = s.hrdata := rfl
@[simp] theorem clearResult_sensor (s : State) : (clearResult s).sensor = s.sensor := rfl
@[simp] theorem clearResult_rst (s : State) : (clearResult s).rst = s.rst := rfl
@[simp] theorem clearResult_hostProg (s : State) : (clearResult s).hostProg = s.hostProg := rfl
@[simp] theorem clearResult_params (s : State) : (clearResult s).params = s.params := rfl
@[simp] theorem clearResult_begun (s : State) : (clearResult s).begun = s.begun := rfl
@[simp] theorem clearResult_stage (s : State) : (clearResult s).stage = s.stage := rfl
@[simp] theorem clearResult_issue (s : State) : (clearResult s).issue = s.issue := rfl
@[simp] theorem clearResult_sample (s : State) : (clearResult s).sample = s.sample := rfl

/-! ### recordFailure -/

@[simp] theorem recordFailure_cnt (e : ErrorKind) (s : State) : (recordFailure e s).cnt = s.cnt := rfl
@[simp] theorem recordFailure_time (e : ErrorKind) (s : State) : (recordFailure e s).time = s.time := rfl
@[simp] theorem recordFailure_owned (e : ErrorKind) (s : State) : (recordFailure e s).owned = s.owned := rfl
@[simp] theorem recordFailure_mode (e : ErrorKind) (s : State) : (recordFailure e s).mode = s.mode := rfl
@[simp] theorem recordFailure_out (e : ErrorKind) (s : State) : (recordFailure e s).out = s.out := rfl
@[simp] theorem recordFailure_phase (e : ErrorKind) (s : State) : (recordFailure e s).phase = s.phase := rfl
@[simp] theorem recordFailure_bitidx (e : ErrorKind) (s : State) : (recordFailure e s).bitidx = s.bitidx := rfl
@[simp] theorem recordFailure_sReg (e : ErrorKind) (s : State) : (recordFailure e s).sReg = s.sReg := rfl
@[simp] theorem recordFailure_nReg (e : ErrorKind) (s : State) : (recordFailure e s).nReg = s.nReg := rfl
@[simp] theorem recordFailure_dnReg (e : ErrorKind) (s : State) : (recordFailure e s).dnReg = s.dnReg := rfl
@[simp] theorem recordFailure_fb (e : ErrorKind) (s : State) : (recordFailure e s).fb = s.fb := rfl
@[simp] theorem recordFailure_reading (e : ErrorKind) (s : State) : (recordFailure e s).reading = s.reading := rfl
@[simp] theorem recordFailure_doneFlag (e : ErrorKind) (s : State) : (recordFailure e s).doneFlag = true := rfl
@[simp] theorem recordFailure_okFlag (e : ErrorKind) (s : State) : (recordFailure e s).okFlag = false := rfl
@[simp] theorem recordFailure_initFlag (e : ErrorKind) (s : State) : (recordFailure e s).initFlag = s.initFlag := rfl
@[simp] theorem recordFailure_cmderrFlag (e : ErrorKind) (s : State) : (recordFailure e s).cmderrFlag = s.cmderrFlag := rfl
@[simp] theorem recordFailure_err (e : ErrorKind) (s : State) : (recordFailure e s).err = e := rfl
@[simp] theorem recordFailure_arg (e : ErrorKind) (s : State) : (recordFailure e s).arg = s.arg := rfl
@[simp] theorem recordFailure_result (e : ErrorKind) (s : State) : (recordFailure e s).result = s.result := rfl
@[simp] theorem recordFailure_handle (e : ErrorKind) (s : State) : (recordFailure e s).handle = s.handle := rfl
@[simp] theorem recordFailure_hrdata (e : ErrorKind) (s : State) : (recordFailure e s).hrdata = s.hrdata := rfl
@[simp] theorem recordFailure_sensor (e : ErrorKind) (s : State) : (recordFailure e s).sensor = s.sensor := rfl
@[simp] theorem recordFailure_rst (e : ErrorKind) (s : State) : (recordFailure e s).rst = s.rst := rfl
@[simp] theorem recordFailure_hostProg (e : ErrorKind) (s : State) : (recordFailure e s).hostProg = s.hostProg := rfl
@[simp] theorem recordFailure_params (e : ErrorKind) (s : State) : (recordFailure e s).params = s.params := rfl
@[simp] theorem recordFailure_begun (e : ErrorKind) (s : State) : (recordFailure e s).begun = s.begun := rfl
@[simp] theorem recordFailure_stage (e : ErrorKind) (s : State) : (recordFailure e s).stage = s.stage := rfl
@[simp] theorem recordFailure_issue (e : ErrorKind) (s : State) : (recordFailure e s).issue = s.issue := rfl
@[simp] theorem recordFailure_sample (e : ErrorKind) (s : State) : (recordFailure e s).sample = s.sample := rfl

/-! ### recordSuccess -/

@[simp] theorem recordSuccess_cnt (s : State) : (recordSuccess s).cnt = s.cnt := rfl
@[simp] theorem recordSuccess_time (s : State) : (recordSuccess s).time = s.time := rfl
@[simp] theorem recordSuccess_owned (s : State) : (recordSuccess s).owned = s.owned := rfl
@[simp] theorem recordSuccess_mode (s : State) : (recordSuccess s).mode = s.mode := rfl
@[simp] theorem recordSuccess_out (s : State) : (recordSuccess s).out = s.out := rfl
@[simp] theorem recordSuccess_phase (s : State) : (recordSuccess s).phase = s.phase := rfl
@[simp] theorem recordSuccess_bitidx (s : State) : (recordSuccess s).bitidx = s.bitidx := rfl
@[simp] theorem recordSuccess_sReg (s : State) : (recordSuccess s).sReg = s.sReg := rfl
@[simp] theorem recordSuccess_nReg (s : State) : (recordSuccess s).nReg = s.nReg := rfl
@[simp] theorem recordSuccess_dnReg (s : State) : (recordSuccess s).dnReg = s.dnReg := rfl
@[simp] theorem recordSuccess_fb (s : State) : (recordSuccess s).fb = s.fb := rfl
@[simp] theorem recordSuccess_reading (s : State) : (recordSuccess s).reading = s.reading := rfl
@[simp] theorem recordSuccess_doneFlag (s : State) : (recordSuccess s).doneFlag = true := rfl
@[simp] theorem recordSuccess_okFlag (s : State) : (recordSuccess s).okFlag = true := rfl
@[simp] theorem recordSuccess_initFlag (s : State) : (recordSuccess s).initFlag = s.initFlag := rfl
@[simp] theorem recordSuccess_cmderrFlag (s : State) : (recordSuccess s).cmderrFlag = s.cmderrFlag := rfl
@[simp] theorem recordSuccess_err (s : State) : (recordSuccess s).err = .noError := rfl
@[simp] theorem recordSuccess_arg (s : State) : (recordSuccess s).arg = s.arg := rfl
@[simp] theorem recordSuccess_result (s : State) : (recordSuccess s).result = s.result := rfl
@[simp] theorem recordSuccess_handle (s : State) : (recordSuccess s).handle = s.handle := rfl
@[simp] theorem recordSuccess_hrdata (s : State) : (recordSuccess s).hrdata = s.hrdata := rfl
@[simp] theorem recordSuccess_sensor (s : State) : (recordSuccess s).sensor = s.sensor := rfl
@[simp] theorem recordSuccess_rst (s : State) : (recordSuccess s).rst = s.rst := rfl
@[simp] theorem recordSuccess_hostProg (s : State) : (recordSuccess s).hostProg = s.hostProg := rfl
@[simp] theorem recordSuccess_params (s : State) : (recordSuccess s).params = s.params := rfl
@[simp] theorem recordSuccess_begun (s : State) : (recordSuccess s).begun = s.begun := rfl
@[simp] theorem recordSuccess_stage (s : State) : (recordSuccess s).stage = s.stage := rfl
@[simp] theorem recordSuccess_issue (s : State) : (recordSuccess s).issue = s.issue := rfl
@[simp] theorem recordSuccess_sample (s : State) : (recordSuccess s).sample = s.sample := rfl

/-! ### failureExit -/

@[simp] theorem failureExit_cnt (e : ErrorKind) (s : State) : (failureExit e s).cnt = s.cnt := rfl
@[simp] theorem failureExit_time (e : ErrorKind) (s : State) : (failureExit e s).time = s.time := rfl
@[simp] theorem failureExit_owned (e : ErrorKind) (s : State) : (failureExit e s).owned = false := rfl
@[simp] theorem failureExit_mode (e : ErrorKind) (s : State) : (failureExit e s).mode = .input := rfl
@[simp] theorem failureExit_out (e : ErrorKind) (s : State) : (failureExit e s).out = s.out := rfl
@[simp] theorem failureExit_phase (e : ErrorKind) (s : State) : (failureExit e s).phase = .idle := rfl
@[simp] theorem failureExit_bitidx (e : ErrorKind) (s : State) : (failureExit e s).bitidx = s.bitidx := rfl
@[simp] theorem failureExit_sReg (e : ErrorKind) (s : State) : (failureExit e s).sReg = s.sReg := rfl
@[simp] theorem failureExit_nReg (e : ErrorKind) (s : State) : (failureExit e s).nReg = s.nReg := rfl
@[simp] theorem failureExit_dnReg (e : ErrorKind) (s : State) : (failureExit e s).dnReg = s.dnReg := rfl
@[simp] theorem failureExit_fb (e : ErrorKind) (s : State) : (failureExit e s).fb = s.fb := rfl
@[simp] theorem failureExit_reading (e : ErrorKind) (s : State) : (failureExit e s).reading = s.reading := rfl
@[simp] theorem failureExit_doneFlag (e : ErrorKind) (s : State) : (failureExit e s).doneFlag = true := rfl
@[simp] theorem failureExit_okFlag (e : ErrorKind) (s : State) : (failureExit e s).okFlag = false := rfl
@[simp] theorem failureExit_initFlag (e : ErrorKind) (s : State) : (failureExit e s).initFlag = s.initFlag := rfl
@[simp] theorem failureExit_cmderrFlag (e : ErrorKind) (s : State) : (failureExit e s).cmderrFlag = s.cmderrFlag := rfl
@[simp] theorem failureExit_err (e : ErrorKind) (s : State) : (failureExit e s).err = e := rfl
@[simp] theorem failureExit_arg (e : ErrorKind) (s : State) : (failureExit e s).arg = s.arg := rfl
@[simp] theorem failureExit_result (e : ErrorKind) (s : State) : (failureExit e s).result = s.result := rfl
@[simp] theorem failureExit_handle (e : ErrorKind) (s : State) : (failureExit e s).handle = s.handle := rfl
@[simp] theorem failureExit_hrdata (e : ErrorKind) (s : State) : (failureExit e s).hrdata = s.hrdata := rfl
@[simp] theorem failureExit_sensor (e : ErrorKind) (s : State) : (failureExit e s).sensor = s.sensor := rfl
@[simp] theorem failureExit_rst (e : ErrorKind) (s : State) : (failureExit e s).rst = s.rst := rfl
@[simp] theorem failureExit_hostProg (e : ErrorKind) (s : State) : (failureExit e s).hostProg = s.hostProg := rfl
@[simp] theorem failureExit_params (e : ErrorKind) (s : State) : (failureExit e s).params = s.params := rfl
@[simp] theorem failureExit_begun (e : ErrorKind) (s : State) : (failureExit e s).begun = false := rfl
@[simp] theorem failureExit_stage (e : ErrorKind) (s : State) : (failureExit e s).stage = s.stage := rfl
@[simp] theorem failureExit_issue (e : ErrorKind) (s : State) : (failureExit e s).issue = s.issue := rfl
@[simp] theorem failureExit_sample (e : ErrorKind) (s : State) : (failureExit e s).sample = s.sample := rfl

/-! ### successExit -/

@[simp] theorem successExit_cnt (s : State) : (successExit s).cnt = s.cnt := rfl
@[simp] theorem successExit_time (s : State) : (successExit s).time = s.time := rfl
@[simp] theorem successExit_owned (s : State) : (successExit s).owned = false := rfl
@[simp] theorem successExit_mode (s : State) : (successExit s).mode = .input := rfl
@[simp] theorem successExit_out (s : State) : (successExit s).out = s.out := rfl
@[simp] theorem successExit_phase (s : State) : (successExit s).phase = .idle := rfl
@[simp] theorem successExit_bitidx (s : State) : (successExit s).bitidx = s.bitidx := rfl
@[simp] theorem successExit_sReg (s : State) : (successExit s).sReg = s.sReg := rfl
@[simp] theorem successExit_nReg (s : State) : (successExit s).nReg = s.nReg := rfl
@[simp] theorem successExit_dnReg (s : State) : (successExit s).dnReg = s.dnReg := rfl
@[simp] theorem successExit_fb (s : State) : (successExit s).fb = s.fb := rfl
@[simp] theorem successExit_reading (s : State) : (successExit s).reading = { pi := s.frameByte 0, pf := s.frameByte 1, si := s.frameByte 2, sf := s.frameByte 3 } := rfl
@[simp] theorem successExit_doneFlag (s : State) : (successExit s).doneFlag = true := rfl
@[simp] theorem successExit_okFlag (s : State) : (successExit s).okFlag = true := rfl
@[simp] theorem successExit_initFlag (s : State) : (successExit s).initFlag = s.initFlag := rfl
@[simp] theorem successExit_cmderrFlag (s : State) : (successExit s).cmderrFlag = s.cmderrFlag := rfl
@[simp] theorem successExit_err (s : State) : (successExit s).err = .noError := rfl
@[simp] theorem successExit_arg (s : State) : (successExit s).arg = s.arg := rfl
@[simp] theorem successExit_result (s : State) : (successExit s).result = s.result := rfl
@[simp] theorem successExit_handle (s : State) : (successExit s).handle = s.handle := rfl
@[simp] theorem successExit_hrdata (s : State) : (successExit s).hrdata = s.hrdata := rfl
@[simp] theorem successExit_sensor (s : State) : (successExit s).sensor = s.sensor := rfl
@[simp] theorem successExit_rst (s : State) : (successExit s).rst = s.rst := rfl
@[simp] theorem successExit_hostProg (s : State) : (successExit s).hostProg = s.hostProg := rfl
@[simp] theorem successExit_params (s : State) : (successExit s).params = s.params := rfl
@[simp] theorem successExit_begun (s : State) : (successExit s).begun = false := rfl
@[simp] theorem successExit_stage (s : State) : (successExit s).stage = s.stage := rfl
@[simp] theorem successExit_issue (s : State) : (successExit s).issue = s.issue := rfl
@[simp] theorem successExit_sample (s : State) : (successExit s).sample = s.sample := rfl

/-! ### resetRegisters -/

@[simp] theorem resetRegisters_cnt (s : State) : (resetRegisters s).cnt = 0 := rfl
@[simp] theorem resetRegisters_time (s : State) : (resetRegisters s).time = 0 := rfl
@[simp] theorem resetRegisters_owned (s : State) : (resetRegisters s).owned = false := rfl
@[simp] theorem resetRegisters_mode (s : State) : (resetRegisters s).mode = .input := rfl
@[simp] theorem resetRegisters_out (s : State) : (resetRegisters s).out = .high := rfl
@[simp] theorem resetRegisters_phase (s : State) : (resetRegisters s).phase = .idle := rfl
@[simp] theorem resetRegisters_bitidx (s : State) : (resetRegisters s).bitidx = 0 := rfl
@[simp] theorem resetRegisters_sReg (s : State) : (resetRegisters s).sReg = 0 := rfl
@[simp] theorem resetRegisters_nReg (s : State) : (resetRegisters s).nReg = 0 := rfl
@[simp] theorem resetRegisters_dnReg (s : State) : (resetRegisters s).dnReg = 0 := rfl
@[simp] theorem resetRegisters_fb (s : State) : (resetRegisters s).fb = [] := rfl
@[simp] theorem resetRegisters_reading (s : State) : (resetRegisters s).reading = { pi := 0, pf := 0, si := 0, sf := 0 } := rfl
@[simp] theorem resetRegisters_doneFlag (s : State) : (resetRegisters s).doneFlag = false := rfl
@[simp] theorem resetRegisters_okFlag (s : State) : (resetRegisters s).okFlag = false := rfl
@[simp] theorem resetRegisters_initFlag (s : State) : (resetRegisters s).initFlag = false := rfl
@[simp] theorem resetRegisters_cmderrFlag (s : State) : (resetRegisters s).cmderrFlag = false := rfl
@[simp] theorem resetRegisters_err (s : State) : (resetRegisters s).err = .noError := rfl
@[simp] theorem resetRegisters_arg (s : State) : (resetRegisters s).arg = 0 := rfl
@[simp] theorem resetRegisters_result (s : State) : (resetRegisters s).result = 0 := rfl
@[simp] theorem resetRegisters_handle (s : State) : (resetRegisters s).handle = 0 := rfl
@[simp] theorem resetRegisters_hrdata (s : State) : (resetRegisters s).hrdata = s.hrdata := rfl
@[simp] theorem resetRegisters_sensor (s : State) : (resetRegisters s).sensor = s.sensor := rfl
@[simp] theorem resetRegisters_rst (s : State) : (resetRegisters s).rst = s.rst := rfl
@[simp] theorem resetRegisters_hostProg (s : State) : (resetRegisters s).hostProg = s.hostProg := rfl
@[simp] theorem resetRegisters_params (s : State) : (resetRegisters s).params = s.params := rfl
@[simp] theorem resetRegisters_begun (s : State) : (resetRegisters s).begun = false := rfl
@[simp] theorem resetRegisters_stage (s : State) : (resetRegisters s).stage = s.stage := rfl
@[simp] theorem resetRegisters_issue (s : State) : (resetRegisters s).issue = none := rfl
@[simp] theorem resetRegisters_sample (s : State) : (resetRegisters s).sample = .low := rfl

/-! ### tick -/

@[simp] theorem tick_cnt (s : State) : (tick s).cnt = if s.inReset then 0 else s.cnt + 1 := rfl
@[simp] theorem tick_time (s : State) : (tick s).time = if s.inReset then 0 else s.time + 1 := rfl
@[simp] theorem tick_owned (s : State) : (tick s).owned = s.owned := rfl
@[simp] theorem tick_mode (s : State) : (tick s).mode = s.mode := rfl
@[simp] theorem tick_out (s : State) : (tick s).out = s.out := rfl
@[simp] theorem tick_phase (s : State) : (tick s).phase = s.phase := rfl
@[simp] theorem tick_bitidx (s : State) : (tick s).bitidx = s.bitidx := rfl
@[simp] theorem tick_sReg (s : State) : (tick s).sReg = s.sReg := rfl
@[simp] theorem tick_nReg (s : State) : (tick s).nReg = s.nReg := rfl
@[simp] theorem tick_dnReg (s : State) : (tick s).dnReg = s.dnReg := rfl
@[simp] theorem tick_fb (s : State) : (tick s).fb = s.fb := rfl
@[simp] theorem tick_reading (s : State) : (tick s).reading = s.reading := rfl
@[simp] theorem tick_doneFlag (s : State) : (tick s).doneFlag = s.doneFlag := rfl
@[simp] theorem tick_okFlag (s : State) : (tick s).okFlag = s.okFlag := rfl
@[simp] theorem tick_initFlag (s : State) : (tick s).initFlag = s.initFlag := rfl
@[simp] theorem tick_cmderrFlag (s : State) : (tick s).cmderrFlag = s.cmderrFlag := rfl
@[simp] theorem tick_err (s : State) : (tick s).err = s.err := rfl
@[simp] theorem tick_arg (s : State) : (tick s).arg = s.arg := rfl
@[simp] theorem tick_result (s : State) : (tick s).result = s.result := rfl
@[simp] theorem tick_handle (s : State) : (tick s).handle = s.handle := rfl
@[simp] theorem tick_hrdata (s : State) : (tick s).hrdata = none := rfl
@[simp] theorem tick_sensor (s : State) : (tick s).sensor = Wave.later s.sensor := rfl
@[simp] theorem tick_rst (s : State) : (tick s).rst = Wave.later s.rst := rfl
@[simp] theorem tick_hostProg (s : State) : (tick s).hostProg = s.hostProg := rfl
@[simp] theorem tick_params (s : State) : (tick s).params = s.params := rfl
@[simp] theorem tick_begun (s : State) : (tick s).begun = s.begun := rfl
@[simp] theorem tick_stage (s : State) : (tick s).stage = .beforeHost := rfl
@[simp] theorem tick_issue (s : State) : (tick s).issue = s.issue := rfl
@[simp] theorem tick_sample (s : State) : (tick s).sample = s.sample := rfl

end Sys2Proof.Machine
end

