-- ==== Sys2Proof/Laws/Ops.lean ====
section
/-! SUPPORT. For each shared operation, what it can answer, said once; the frame buffer's read and write laws and its
canonical form; the laws of waveforms and of the counter. -/

namespace Sys2Proof.Machine

/-! ## Sequencing -/

@[simp] theorem andThen_next (s : State) (k : State → Result) : andThen (.next s) k = k s := rfl

@[simp] theorem andThen_fault (f : Fault) (k : State → Result) : andThen (.fault f) k = .fault f := rfl

@[simp] theorem andThen_refused (q : Refusal) (k : State → Result) : andThen (.refused q) k = .refused q := rfl

theorem andThen_eq_next {r : Result} {k : State → Result} {t : State} (h : andThen r k = .next t) :
    ∃ s, r = .next s ∧ k s = .next t := by
  cases r with
  | next s => exact ⟨s, rfl, h⟩
  | fault f => cases h
  | refused q => cases h

/-! ## Frame buffer -/

@[simp] theorem Memory.read_nil (a : Nat) : Memory.read [] a = 0#8 := rfl

@[simp] theorem Memory.wf_nil : Memory.wf [] = true := rfl

theorem Memory.wfFrom_cons {lo k : Nat} {b : Byte} {m : Memory} :
    Memory.wfFrom lo ((k, b) :: m) = true ↔ lo ≤ k ∧ k < 5 ∧ b ≠ 0#8 ∧ Memory.wfFrom (k + 1) m = true := by
  change (decide (lo ≤ k) && decide (k < Config.nBytes) && !decide (b = 0#8) && Memory.wfFrom (k + 1) m) = true ↔ _
  simp only [Bool.and_eq_true, decide_eq_true_eq, Bool.not_eq_true', decide_eq_false_iff_not, and_assoc]

theorem Memory.wfFrom_weaken {lo lo' : Nat} {m : Memory} (hle : lo' ≤ lo) (h : Memory.wfFrom lo m = true) :
    Memory.wfFrom lo' m = true := by
  cases m with
  | nil => rfl
  | cons c m =>
    obtain ⟨k, b⟩ := c
    rw [wfFrom_cons] at h ⊢
    exact ⟨by omega, h.2⟩

/-- Below the first address listed everything reads as 0. -/
theorem Memory.read_below {lo a : Nat} {m : Memory} (h : Memory.wfFrom lo m = true) (ha : a < lo) : m.read a = 0#8 := by
  induction m generalizing lo with
  | nil => rfl
  | cons c m ih =>
    obtain ⟨k, b⟩ := c
    rw [wfFrom_cons] at h
    have hk : k ≠ a := by omega
    simp only [Memory.read, if_neg hk]
    exact ih h.2.2.2 (by omega)

/-- A write at an existing address keeps the canonical form. -/
theorem Memory.wfFrom_write {lo a : Nat} {v : Byte} {m : Memory} (h : Memory.wfFrom lo m = true) (hlo : lo ≤ a)
    (ha : a < 5) : Memory.wfFrom lo (m.write a v) = true := by
  induction m generalizing lo with
  | nil =>
    by_cases hv : v = 0#8
    · simp [Memory.write, hv, Memory.wfFrom]
    · simp only [Memory.write, if_neg hv]
      exact wfFrom_cons.2 ⟨hlo, ha, hv, rfl⟩
  | cons c m ih =>
    obtain ⟨k, b⟩ := c
    have h' := wfFrom_cons.1 h
    unfold Memory.write
    split
    · rename_i hlt
      split
      · exact h
      · rename_i hv
        exact wfFrom_cons.2 ⟨hlo, ha, hv, wfFrom_cons.2 ⟨by omega, h'.2⟩⟩
    · rename_i hge
      split
      · rename_i heq
        split
        · exact wfFrom_weaken (by omega) h'.2.2.2
        · rename_i hv
          exact wfFrom_cons.2 ⟨h'.1, h'.2.1, hv, h'.2.2.2⟩
      · exact wfFrom_cons.2 ⟨h'.1, h'.2.1, h'.2.2.1, ih h'.2.2.2 (by omega)⟩

theorem Memory.wf_write {a : Nat} {v : Byte} {m : Memory} (h : m.wf = true) (ha : a < 5) :
    (m.write a v).wf = true :=
  Memory.wfFrom_write h (Nat.zero_le a) ha

/-- Reading after a write: the byte written at its address, every other byte as before. -/
theorem Memory.read_write {lo a : Nat} {v : Byte} {m : Memory} (h : Memory.wfFrom lo m = true) (b : Nat) :
    (m.write a v).read b = if b = a then v else m.read b := by
  induction m generalizing lo with
  | nil =>
    by_cases hv : v = 0#8
    · simp [Memory.write, hv]
    · by_cases hb : b = a
      · simp [Memory.write, hv, hb, Memory.read]
      · have hab : a ≠ b := fun e => hb e.symm
        simp [Memory.write, hv, hb, hab, Memory.read]
  | cons c m ih =>
    obtain ⟨k, c⟩ := c
    have h' := wfFrom_cons.1 h
    unfold Memory.write
    split
    · rename_i hlt
      by_cases hb : b = a
      · subst hb
        have hkb : k ≠ b := by omega
        by_cases hv : v = 0#8
        · simp [hv, Memory.read, hkb, read_below h'.2.2.2 (show b < k + 1 by omega)]
        · simp [hv, Memory.read]
      · have hab : a ≠ b := fun e => hb e.symm
        by_cases hv : v = 0#8
        · simp [hv, hb]
        · simp [hv, hb, Memory.read, hab]
    · split
      · rename_i hge heq
        subst heq
        by_cases hb : b = a
        · subst hb
          by_cases hv : v = 0#8
          · simp [hv, read_below h'.2.2.2 (show b < b + 1 by omega)]
          · simp [hv, Memory.read]
        · have hab : a ≠ b := fun e => hb e.symm
          by_cases hv : v = 0#8
          · simp [hv, hb, Memory.read, hab]
          · simp [hv, hb, Memory.read, hab]
      · rename_i hge hne
        by_cases hkb : k = b
        · subst hkb
          have hka : k ≠ a := fun e => hne e.symm
          simp [Memory.read, hka]
        · simp only [Memory.read, if_neg hkb]
          exact ih h'.2.2.2

/-- Two frame buffers in canonical form that read alike are equal. -/
theorem Memory.ext_of_wfFrom {lo : Nat} {m n : Memory} (hm : Memory.wfFrom lo m = true) (hn : Memory.wfFrom lo n = true)
    (h : ∀ a, m.read a = n.read a) : m = n := by
  induction m generalizing lo n with
  | nil =>
    cases n with
    | nil => rfl
    | cons c n =>
      obtain ⟨k, b⟩ := c
      have hk := h k
      simp [Memory.read] at hk
      exact absurd hk.symm (wfFrom_cons.1 hn).2.2.1
  | cons c m ih =>
    obtain ⟨k, b⟩ := c
    have hm' := wfFrom_cons.1 hm
    cases n with
    | nil =>
      have hk := h k
      simp [Memory.read] at hk
      exact absurd hk hm'.2.2.1
    | cons d n =>
      obtain ⟨j, c⟩ := d
      have hn' := wfFrom_cons.1 hn
      have hkj : k = j := by
        rcases Nat.lt_trichotomy k j with hlt | heq | hgt
        · have hk := h k
          have hjk : j ≠ k := by omega
          simp only [Memory.read, if_true, if_neg hjk, read_below hn'.2.2.2 (show k < j + 1 by omega)] at hk
          exact absurd hk hm'.2.2.1
        · exact heq
        · have hj := h j
          have hkj : k ≠ j := by omega
          simp only [Memory.read, if_true, if_neg hkj, read_below hm'.2.2.2 (show j < k + 1 by omega)] at hj
          exact absurd hj.symm hn'.2.2.1
      subst hkj
      have hb : b = c := by simpa [Memory.read] using h k
      subst hb
      have htail : m = n := by
        refine ih hm'.2.2.2 hn'.2.2.2 fun a => ?_
        by_cases hka : k = a
        · subst hka
          rw [read_below hm'.2.2.2 (by omega), read_below hn'.2.2.2 (by omega)]
        · simpa [Memory.read, hka] using h a
      rw [htail]

theorem storeFrameByte_next {a : Nat} {v : Byte} {s t : State} (h : storeFrameByte a v s = .next t) :
    a < 5 ∧ t = { s with fb := s.fb.write a v } := by
  unfold storeFrameByte at h
  split at h
  · rename_i ha
    exact ⟨ha, by cases h; rfl⟩
  · cases h

theorem storeFrameByte_of_lt {a : Nat} {v : Byte} {s : State} (h : a < 5) :
    storeFrameByte a v s = .next { s with fb := s.fb.write a v } :=
  if_pos h

/-- `SHIFT` (R180): it answers a next state exactly when `BITIDX < 40`, and changes the frame buffer alone. -/
theorem shiftBit_next {bit : BitVec 1} {s t : State} (h : shiftBit bit s = .next t) :
    s.frameAddress < 5 ∧
      t = { s with fb := s.fb.write s.frameAddress (shiftIn (s.frameByte s.frameAddress) bit) } :=
  storeFrameByte_next h

/-! ## Microsecond Timer -/

/-- The quotient of R132 fits its 32 bits. -/
theorem elapsedUs_toNat (s : State) (i : Word) : (s.elapsedUs i).toNat = (s.cnt - i).toNat / s.params.ticksPerUs := by
  have h : (s.cnt - i).toNat / s.params.ticksPerUs < 2 ^ 32 :=
    Nat.lt_of_le_of_lt (Nat.div_le_self _ _) (s.cnt - i).isLt
  rw [State.elapsedUs, BitVec.toNat_ofNat, Nat.mod_eq_of_lt h]

theorem waited_iff (s : State) (n : Nat) : s.waited n = true ↔ n ≤ (s.cnt - s.sReg).toNat / s.params.ticksPerUs := by
  simp [State.waited, elapsedUs_toNat]

/-- In the instant a wait begins, only a wait of 0 is over. -/
theorem waited_at_start {s : State} (h : s.sReg = s.cnt) (n : Nat) : s.waited n = true ↔ n = 0 := by
  rw [waited_iff, h]
  simp

/-! ## Line Driver -/

theorem lineWrite_next {v : Level} {s t : State} (h : lineWrite v s = .next t) :
    s.mode = .output ∧ t = { s with out := v } := by
  unfold lineWrite at h
  split at h
  · rename_i hm
    exact ⟨hm, by cases h; rfl⟩
  · cases h

theorem lineWrite_of_output {v : Level} {s : State} (h : s.mode = .output) : lineWrite v s = .next { s with out := v } := by
  simp [lineWrite, h]

theorem lineRead_next {s t : State} (h : lineRead s = .next t) :
    s.mode = .input ∧ t = { s with sample := s.sensorLevel } := by
  unfold lineRead at h
  split at h
  · rename_i hm
    exact ⟨hm, by cases h; simp [State.line, hm]⟩
  · cases h

theorem lineRead_of_input {s : State} (h : s.mode = .input) : lineRead s = .next { s with sample := s.sensorLevel } := by
  simp [lineRead, State.line, h]

/-! ## The sequencer -/

theorem hold_next {n : Nat} {exit : State → Result} {s t : State} (h : hold n exit s = .next t) :
    (s.waited n = true ∧ exit s = .next t) ∨ (s.waited n = false ∧ t = s) := by
  unfold hold at h
  split at h
  · rename_i hw
    exact .inl ⟨hw, h⟩
  · rename_i hw
    exact .inr ⟨by simpa using hw, by cases h; rfl⟩

theorem delayIn_next {p : Phase} {n : Nat} {exit : State → Result} {s t : State} (h : delayIn p n exit s = .next t) :
    ∃ x, x = (if s.inside p then s else beginDelay p s) ∧
      ((x.waited n = true ∧ exit x = .next t) ∨ (x.waited n = false ∧ t = x)) :=
  ⟨_, rfl, hold_next h⟩

/-- One sample of a guarded wait (R171): the line has left the level, or the wait fails, or it goes on. -/
theorem pollLine_next {level : Level} {e : ErrorKind} {exit : State → Result} {s t : State}
    (h : pollLine level e exit s = .next t) :
    s.mode = .input ∧ ∃ x, x = { s with sample := s.sensorLevel } ∧
      ((x.sample ≠ level ∧ exit x = .next t) ∨
        (x.sample = level ∧ x.nReg.toNat = x.params.timeoutUs ∧ t = failureExit e x) ∨
        (x.sample = level ∧ x.nReg.toNat ≠ x.params.timeoutUs ∧ t = x)) := by
  obtain ⟨x, hx, h⟩ := andThen_eq_next h
  obtain ⟨hm, rfl⟩ := lineRead_next hx
  refine ⟨hm, _, rfl, ?_⟩
  split at h
  · rename_i hl
    split at h
    · rename_i hn
      exact .inr (.inl ⟨hl, hn, by cases h; rfl⟩)
    · rename_i hn
      exact .inr (.inr ⟨hl, hn, by cases h; rfl⟩)
  · rename_i hl
    exact .inl ⟨hl, h⟩

/-- A guarded wait (R171): it waits for its next sample, or it takes one, at its beginning or when it is due. -/
theorem waitWhile_next {p : Phase} {level : Level} {e : ErrorKind} {exit : State → Result} {s t : State}
    (h : waitWhile p level e exit s = .next t) :
    (s.inside p = true ∧ s.waited s.nextPollUs = false ∧ t = s) ∨
      ∃ x, ((s.inside p = true ∧ s.waited s.nextPollUs = true ∧ x = countPoll s) ∨
          (s.inside p = false ∧ x = beginWait p s)) ∧ pollLine level e exit x = .next t := by
  unfold waitWhile at h
  split at h
  · rename_i hi
    rcases hold_next h with ⟨hw, h⟩ | ⟨hw, h⟩
    · exact .inr ⟨_, .inl ⟨hi, hw, rfl⟩, h⟩
    · exact .inl ⟨hi, hw, h⟩
  · rename_i hi
    exact .inr ⟨_, .inr ⟨by simpa using hi, rfl⟩, h⟩

/-- The start of a transaction never stops (R155: its `L.WRITE` follows `L.SET_MODE(Output)`). -/
theorem startTransaction_eq (s : State) :
    startTransaction s = .next
      { s with
        cmderrFlag := false, doneFlag := false, okFlag := false, err := .noError, fb := [], bitidx := 0
        owned := true, mode := .output, out := .low, phase := .startLow, begun := false } := rfl

/-! ## Waveforms -/

/-- A tick moves a waveform by one. -/
theorem Wave.at_later {α : Type} (oracle : Nat → Nat → α) (rest : α) (w : Wave α) (n : Nat) :
    Wave.at oracle rest (Wave.later w) n = Wave.at oracle rest w (n + 1) := by
  induction w generalizing n with
  | nil => rfl
  | cons c w ih =>
    match c with
    | .hold _ 0 => simpa [Wave.later, Wave.at] using ih n
    | .hold _ 1 => simp [Wave.later, Wave.at]
    | .hold _ (d + 2) =>
      have hsub : n + 1 - (d + 2) = n - (d + 1) := by omega
      have hiff : n < d + 1 ↔ n + 1 < d + 2 := by omega
      simp only [Wave.later, Wave.at, hsub, hiff]
    | .always _ => rfl
    | .free _ start =>
      have hadd : start + 1 + n = start + (n + 1) := by omega
      simp only [Wave.later, Wave.at, hadd]

/-- `SENSOR` after a tick. -/
theorem sensorAt_tick (s : State) (n : Nat) : (tick s).sensorAt n = s.sensorAt (n + 1) :=
  Wave.at_later Config.freeSensor Level.high s.sensor n

/-- The reset pin after a tick. -/
theorem inReset_tick (s : State) : (tick s).inReset = Wave.at Config.freeReset false s.rst 1 :=
  Wave.at_later Config.freeReset false s.rst 0

/-- Every function of the instant is a waveform, whole: with that function as the free function, the free segment is it. -/
theorem Wave.at_free {α : Type} (rest : α) (f : Nat → α) (w : Wave α) (source n : Nat) :
    Wave.at (fun _ t => f t) rest (.free source 0 :: w) n = f n := by
  simp [Wave.at]

/-- A pin held at one value for ever. -/
theorem Wave.at_always {α : Type} (oracle : Nat → Nat → α) (rest v : α) (w : Wave α) (n : Nat) :
    Wave.at oracle rest (.always v :: w) n = v := rfl

/-- A sensor that is a free function from now on. -/
theorem sensorAt_free {s : State} {source start : Nat} {w : Wave Level} (h : s.sensor = .free source start :: w)
    (n : Nat) : s.sensorAt n = Config.freeSensor source (start + n) := by
  simp [State.sensorAt, h, Wave.at]

/-- Up to any horizon every `SENSOR` is also a waveform of segments with ends, which can be written out. -/
theorem Wave.covers {α : Type} (oracle : Nat → Nat → α) (rest : α) (f : Nat → α) (k : Nat) :
    ∃ w : Wave α, ∀ n, n < k → Wave.at oracle rest w n = f n := by
  induction k generalizing f with
  | zero => exact ⟨[], fun n h => absurd h (Nat.not_lt_zero n)⟩
  | succ k ih =>
    obtain ⟨w, hw⟩ := ih fun n => f (n + 1)
    refine ⟨.hold (f 0) 1 :: w, fun n h => ?_⟩
    cases n with
    | zero => simp [Wave.at]
    | succ n =>
      have := hw n (by omega)
      simpa [Wave.at] using this

/-! ## A step -/

theorem step_of_fetch {s : State} {w : CodeWord} (h : s.fetch = some w) : step s = runWord w { s with issue := none } := by
  simp [step, h]

theorem step_of_no_fetch {s : State} (h : s.fetch = none) : step s = .next (advance s) := by
  simp [step, h]

/-- What a fetch can be. -/
theorem fetch_some {s : State} {w : CodeWord} (h : s.fetch = some w) :
    s.inReset = false ∧ (s.issue = some w ∨ (s.issue = none ∧ s.enabled = true ∧ w = .p s.phase.code)) := by
  unfold State.fetch at h
  split at h
  · cases h
  · rename_i hr
    refine ⟨by simpa using hr, ?_⟩
    split at h
    · rename_i w' hw
      left
      rw [hw, h]
    · rename_i hw
      split at h
      · rename_i he
        exact .inr ⟨hw, he, by cases h; rfl⟩
      · cases h

/-- A step: an issued word, or the phase, or the host's turn or the tick. -/
theorem step_cases {s t : State} (h : step s = .next t) :
    (∃ w, s.inReset = false ∧ s.issue = some w ∧ runWord w { s with issue := none } = .next t) ∨
      (s.inReset = false ∧ s.issue = none ∧ s.enabled = true ∧ runWord (.p s.phase.code) s = .next t) ∨
      (s.fetch = none ∧ t = advance s) := by
  cases hf : s.fetch with
  | none =>
    rw [step_of_no_fetch hf] at h
    exact .inr (.inr ⟨rfl, by cases h; rfl⟩)
  | some w =>
    rw [step_of_fetch hf] at h
    obtain ⟨hr, hi | ⟨hi, he, rfl⟩⟩ := fetch_some hf
    · exact .inl ⟨w, hr, hi, h⟩
    · refine .inr (.inl ⟨hr, hi, he, ?_⟩)
      rw [← h, ← hi]

/-- The phase's own code decodes to the phase's operation. -/
@[simp] theorem decode_phase (p : Phase) : decode (.p p.code) = .ok p.instr := by
  cases p <;> rfl

theorem runWord_phase (p : Phase) (s : State) : runWord (.p p.code) s = exec p.instr s := by
  simp [runWord]

end Sys2Proof.Machine
end

