-- ==== Sys2Proof/Laws/PerInstr.lean ====
section
/-! SUPPORT. The family TableRow, one lemma per instruction: a well-formed instruction's word fits its row of
spec/opcode_table.json (width, mask, match), and the decoder reads the instruction back from the word's bits. -/

namespace Sys2Proof.Laws

/-- The width, mask and match of an instruction's row in spec/opcode_table.json. -/
def tableRow : Instr → Nat × Nat × Nat
  | .sInitialize => (32, 0xffffffff, 0x00000001)
  | .sRead => (32, 0xffffffff, 0x00000002)
  | .tStart => (32, 0xffffffff, 0x00000010)
  | .tElapsedUs => (32, 0xffffffff, 0x00000011)
  | .tDelayUs => (32, 0xffffffff, 0x00000012)
  | .lSetMode _ => (9, 0x1fe, 0x040)
  | .lWrite _ => (9, 0x1fe, 0x042)
  | .lRead => (9, 0x1ff, 0x044)
  | .pIdle => (4, 0xf, 0x0)
  | .pStartLow => (4, 0xf, 0x1)
  | .pStartHigh => (4, 0xf, 0x2)
  | .pRespWait => (4, 0xf, 0x3)
  | .pRespLow => (4, 0xf, 0x4)
  | .pRespHigh => (4, 0xf, 0x5)
  | .pBitLow => (4, 0xf, 0x6)
  | .pBitDelay => (4, 0xf, 0x7)
  | .pBitHigh => (4, 0xf, 0x8)
  | .pValidate => (4, 0xf, 0x9)
  | .pHostDelay => (4, 0xf, 0xa)

/-- The number of bits of a code word. -/
def wordWidth : CodeWord → Nat
  | .h _ => 32
  | .m _ => 9
  | .p _ => 4

/-- The bits of a code word as a number. -/
def wordBits : CodeWord → Nat
  | .h w => w.toNat
  | .m w => w.toNat
  | .p w => w.toNat

/-- The instruction's word fits its row, and decodes to the instruction. -/
def TableRow.Statement (i : Instr) : Prop :=
  i.wf = true → wordWidth (encode i) = (tableRow i).1 ∧ wordBits (encode i) &&& (tableRow i).2.1 = (tableRow i).2.2 ∧
    decodeTableWord (tableRow i).1 (wordBits (encode i)) = some i

theorem TableRow.sInitialize : TableRow.Statement .sInitialize := fun _ => by decide

theorem TableRow.sRead : TableRow.Statement .sRead := fun _ => by decide

theorem TableRow.tStart : TableRow.Statement .tStart := fun _ => by decide

theorem TableRow.tElapsedUs : TableRow.Statement .tElapsedUs := fun _ => by decide

theorem TableRow.tDelayUs : TableRow.Statement .tDelayUs := fun _ => by decide

theorem TableRow.lSetMode (m : Mode) : TableRow.Statement (.lSetMode m) :=
  fun _ => by cases m <;> decide

theorem TableRow.lWrite (v : Level) : TableRow.Statement (.lWrite v) :=
  fun _ => by cases v <;> decide

theorem TableRow.lRead : TableRow.Statement .lRead := fun _ => by decide

theorem TableRow.pIdle : TableRow.Statement .pIdle := fun _ => by decide

theorem TableRow.pStartLow : TableRow.Statement .pStartLow := fun _ => by decide

theorem TableRow.pStartHigh : TableRow.Statement .pStartHigh := fun _ => by decide

theorem TableRow.pRespWait : TableRow.Statement .pRespWait := fun _ => by decide

theorem TableRow.pRespLow : TableRow.Statement .pRespLow := fun _ => by decide

theorem TableRow.pRespHigh : TableRow.Statement .pRespHigh := fun _ => by decide

theorem TableRow.pBitLow : TableRow.Statement .pBitLow := fun _ => by decide

theorem TableRow.pBitDelay : TableRow.Statement .pBitDelay := fun _ => by decide

theorem TableRow.pBitHigh : TableRow.Statement .pBitHigh := fun _ => by decide

theorem TableRow.pValidate : TableRow.Statement .pValidate := fun _ => by decide

theorem TableRow.pHostDelay : TableRow.Statement .pHostDelay := fun _ => by decide

end Sys2Proof.Laws
end

