-- ==== Sys2Proof/Laws/Runs.lean ====
section
/-! SUPPORT. Runs of several steps: how they begin, how they join, and that they stay among the reachable states. -/

namespace Sys2Proof.Machine

theorem Reaches.zero (s : State) : Reaches s 0 s := rfl

/-- What `Host.Core.run` does in one step, for any machine. -/
theorem coreRun_succ (M : Host.Core) (s : M.State) (k : Nat) :
    M.run (k + 1) s =
      match M.step s with
      | .next t => M.run k t
      | .fault r => .fault r
      | .refused r => .refused r := rfl

theorem coreRun_next {M : Host.Core} {s t : M.State} (k : Nat) (h : M.step s = .next t) :
    M.run (k + 1) s = M.run k t := by
  rw [coreRun_succ, h]

theorem coreRun_first {M : Host.Core} {s u : M.State} {k : Nat} (h : M.run (k + 1) s = .next u) :
    ∃ t, M.step s = .next t ∧ M.run k t = .next u := by
  rw [coreRun_succ] at h
  split at h
  · rename_i t ht
    exact ⟨t, ht, h⟩
  · cases h
  · cases h

/-- A step and a run of `k` are a run of `k + 1`. -/
theorem Reaches.cons {s t u : State} {k : Nat} (h : step s = .next t) (hk : Reaches t k u) : Reaches s (k + 1) u :=
  (coreRun_next (M := Sys2Proof.core) k h).trans hk

/-- A run that begins is a step and the rest. -/
theorem Reaches.uncons {s u : State} {k : Nat} (h : Reaches s (k + 1) u) : ∃ t, step s = .next t ∧ Reaches t k u :=
  coreRun_first (M := Sys2Proof.core) h

/-- Two runs end to end. -/
theorem Reaches.append {s t u : State} {j k : Nat} (h : Reaches s j t) (hk : Reaches t k u) : Reaches s (j + k) u := by
  induction j generalizing s with
  | zero =>
    have hst : s = t := by
      have h' : Host.Outcome.next s = Host.Outcome.next t := h
      injection h'
    rw [hst, Nat.zero_add]
    exact hk
  | succ j ih =>
    obtain ⟨v, hv, h⟩ := h.uncons
    rw [Nat.succ_add]
    exact Reaches.cons hv (ih h)

/-- A run from a reachable state ends in one. -/
theorem Reachable.run {s t : State} {k : Nat} (hs : Reachable s) (h : Reaches s k t) : Reachable t := by
  induction k generalizing s with
  | zero =>
    have hst : s = t := by
      have h' : Host.Outcome.next s = Host.Outcome.next t := h
      injection h'
    exact hst ▸ hs
  | succ k ih =>
    obtain ⟨v, hv, h⟩ := h.uncons
    exact ih (Reachable.step s v hs hv) h

end Sys2Proof.Machine
end

