-- ==== Sys2Proof/Tests/Slice0.lean ====
section
/-! SUPPORT. Tests: words written out bit by bit, ill-formed terms refused, one-step examples from 95_test_vectors.md and
the worked values of 10_state.md, and for each statement with hypotheses a state that meets them. -/

namespace Sys2Proof.Tests

open Sys2Proof Sys2Proof.Machine

/-! ## Decoding: each row's word, written out from its encoding in 30_encoding.md -/

theorem test_decode_sInitialize : decodeTableWord 32 0b00000000000000000000000000000001 = some .sInitialize := by decide
theorem test_decode_sRead : decodeTableWord 32 0b00000000000000000000000000000010 = some .sRead := by decide
theorem test_decode_tStart : decodeTableWord 32 0b00000000000000000000000000010000 = some .tStart := by decide
theorem test_decode_tElapsedUs : decodeTableWord 32 0b00000000000000000000000000010001 = some .tElapsedUs := by decide
theorem test_decode_tDelayUs : decodeTableWord 32 0b00000000000000000000000000010010 = some .tDelayUs := by decide
theorem test_decode_lSetMode_input : decodeTableWord 9 0b001000000 = some (.lSetMode .input) := by decide
theorem test_decode_lSetMode_output : decodeTableWord 9 0b001000001 = some (.lSetMode .output) := by decide
theorem test_decode_lWrite_low : decodeTableWord 9 0b001000010 = some (.lWrite .low) := by decide
theorem test_decode_lWrite_high : decodeTableWord 9 0b001000011 = some (.lWrite .high) := by decide
theorem test_decode_lRead : decodeTableWord 9 0b001000100 = some .lRead := by decide
theorem test_decode_pIdle : decodeTableWord 4 0b0000 = some .pIdle := by decide
theorem test_decode_pStartLow : decodeTableWord 4 0b0001 = some .pStartLow := by decide
theorem test_decode_pStartHigh : decodeTableWord 4 0b0010 = some .pStartHigh := by decide
theorem test_decode_pRespWait : decodeTableWord 4 0b0011 = some .pRespWait := by decide
theorem test_decode_pRespLow : decodeTableWord 4 0b0100 = some .pRespLow := by decide
theorem test_decode_pRespHigh : decodeTableWord 4 0b0101 = some .pRespHigh := by decide
theorem test_decode_pBitLow : decodeTableWord 4 0b0110 = some .pBitLow := by decide
theorem test_decode_pBitDelay : decodeTableWord 4 0b0111 = some .pBitDelay := by decide
theorem test_decode_pBitHigh : decodeTableWord 4 0b1000 = some .pBitHigh := by decide
theorem test_decode_pValidate : decodeTableWord 4 0b1001 = some .pValidate := by decide
theorem test_decode_pHostDelay : decodeTableWord 4 0b1010 = some .pHostDelay := by decide

/-- Reserved words of the three formats (R93, R94, R100). -/
theorem test_decode_reserved :
    decode (.h 0x00000000) = .error .reservedOpcode ∧ decode (.h 0x00000003) = .error .reservedOpcode ∧
    decode (.h 0x00000102) = .error .upperBitsNotZero ∧ decode (.h 0x80000001) = .error .upperBitsNotZero ∧
    decode (.m 0b001000101) = .error .operandBitNotZero ∧ decode (.m 0b001000110) = .error .reservedMicroOpcode ∧
    decode (.p 11) = .error .reservedPhase ∧ decode (.p 15) = .error .reservedPhase := by decide

/-! ## Well-formedness: a term that each check refuses -/

theorem test_wf_defaults : ({} : Params).legal = true ∧ ({} : Params).documented = true ∧
    ({} : Params).holdsEnd = true := by decide
theorem test_wf_no_ticks : ({ ticksPerUs := 0 } : Params).ticksLegal = false := by decide
theorem test_wf_start_low_short : ({ startLowUs := 17999 } : Params).startLowLegal = false := by decide
theorem test_wf_start_high_short : ({ startHighUs := 19 } : Params).startHighLegal = false := by decide
theorem test_wf_start_high_long : ({ startHighUs := 41 } : Params).startHighLegal = false := by decide
theorem test_wf_timeout_too_long : ({ timeoutUs := 128 } : Params).timeoutLegal = false := by decide
theorem test_wf_bit_sample_early : ({ bitSampleUs := 28 } : Params).bitSampleLegal = false := by decide
theorem test_wf_bit_sample_late : ({ bitSampleUs := 70 } : Params).bitSampleLegal = false := by decide
theorem test_wf_not_documented : ({ primaryMax := 101 } : Params).documented = false := by decide
theorem test_wf_hold_too_long : ({ ticksPerUs := 4, startLowUs := 0x40000000 } : Params).holdsEnd = false := by decide
theorem test_wf_illegal : ({ ticksPerUs := 0 } : Params).legal = false := by decide
theorem test_wf_memory_zero_entry : Memory.wf [(0, 0)] = false := by decide
theorem test_wf_memory_unsorted : Memory.wf [(1, 7), (0, 7)] = false := by decide
theorem test_wf_memory_repeated : Memory.wf [(1, 7), (1, 8)] = false := by decide
theorem test_wf_memory_past_frame : Memory.wf [(5, 7)] = false := by decide
theorem test_wf_memory_reset : State.reset.fb.wf = true := by decide

/-! ## Helpers -/

/-- A test of the next state; false where there is none. -/
def leadsTo (r : Result) (f : State → Bool) : Bool :=
  match r with
  | .next t => f t
  | .fault _ => false
  | .refused _ => false

/-- The frame buffer of a frame without zero bytes removed: each byte written in turn. -/
def frameOf (b0 b1 b2 b3 b4 : Byte) : Memory :=
  ((((Memory.write [] 0 b0).write 1 b1).write 2 b2).write 3 b3).write 4 b4

/-- Idle and initialised, waiting for a command. -/
def idling : State := { State.reset with begun := true, initFlag := true }

/-- In a transaction, at the block of `p`, its wait begun at instant 1000 and `n` microseconds old. -/
def waiting (p : Phase) (n : Nat) : State :=
  { State.reset with
    phase := p, begun := true, initFlag := true, owned := true, sReg := 1000, cnt := BitVec.ofNat 32 (1000 + n)
    time := 1000 + n }

/-- In a guarded wait or a bit, `n` microseconds old, the line at `l`. -/
def waitingAt (p : Phase) (n : Nat) (l : Level) : State :=
  { waiting p n with nReg := BitVec.ofNat 7 (n - 1), sensor := [.hold l 1] }

/-- Before `P.VALIDATE` with the frame given. -/
def received (b0 b1 b2 b3 b4 : Byte) : State :=
  { waiting .validate 0 with begun := false, bitidx := 40, fb := frameOf b0 b1 b2 b3 b4 }

/-! ## Words the host reads -/

/-- The worked values of R32, and V52. -/
theorem test_status_worked :
    State.reset.status = 0x00000000 ∧ idling.status = 0x00000008 ∧
    ({ waiting .startLow 0 with mode := .output, out := .low } : State).status = 0x01001009 ∧
    ({ idling with doneFlag := true, okFlag := true, bitidx := 40 } : State).status = 0x0028000E ∧
    ({ idling with doneFlag := true, err := .checksumError, bitidx := 40 } : State).status = 0x0028040A ∧
    ({ idling with doneFlag := true, err := .noResponse } : State).status = 0x0000010A ∧
    ({ waiting .bitDelay 0 with bitidx := 39 } : State).status = 0x03277009 := by decide

/-- The worked value of R33. -/
theorem test_reading_worked : ({ pi := 45, pf := 0, si := 23, sf := 0 } : Reading).word = 0x0017002D := by decide

/-- R105: port 1, pin 5 (P1). -/
theorem test_packHandle : packHandle 1 5 = 0x00000105 := by decide

/-! ## One step of each operation -/

/-- V14. -/
theorem test_sInitialize_stores_handle :
    leadsTo (exec .sInitialize { State.reset with arg := 0x105 })
      (fun t => decide (t.status = 0x00000008 ∧ t.handle = 0x105 ∧ t.lineOe = false)) = true := by decide

/-- V44, instants 9 to 11: refused while busy. -/
theorem test_sInitialize_refused_busy :
    leadsTo (exec .sInitialize { waiting .startLow 7 with mode := .output, out := .low, arg := 9, handle := 7 })
      (fun t => decide (t.status = 0x01001019 ∧ t.handle = 7)) = true := by decide

/-- V15. -/
theorem test_sRead_refused_without_init :
    leadsTo (exec .sRead State.reset) (fun t => decide (t.status = 0x00000010 ∧ t.lineOe = false)) = true := by decide

/-- V45: accepted after a failure, which it clears. -/
theorem test_sRead_accepted :
    leadsTo (exec .sRead { idling with doneFlag := true, err := .noResponse, cmderrFlag := true })
      (fun t => decide (t.status = 0x01001009 ∧ t.lineOe = true ∧ t.lineO = .low)) = true := by decide

/-- V1. -/
theorem test_tStart_snapshot :
    leadsTo (exec .tStart { State.reset with cnt := 1000, cmderrFlag := true })
      (fun t => decide (t.result = 0x3E8 ∧ t.cmderrFlag = false)) = true := by decide

/-- V2, V3, V7. -/
theorem test_tElapsedUs_wraps :
    leadsTo (exec .tElapsedUs { State.reset with arg := 1000, cnt := 1040 }) (fun t => decide (t.result = 40)) = true ∧
    leadsTo (exec .tElapsedUs { State.reset with arg := 0xFFFFFFF0, cnt := 0x10 })
      (fun t => decide (t.result = 32)) = true ∧
    leadsTo (exec .tElapsedUs { State.reset with arg := 24, cnt := 23 })
      (fun t => decide (t.result = 0xFFFFFFFF)) = true := by decide

/-- V4. -/
theorem test_tElapsedUs_truncates :
    leadsTo (exec .tElapsedUs { State.reset with params := { ticksPerUs := 4 }, arg := 100, cnt := 107 })
      (fun t => decide (t.result = 1)) = true ∧
    leadsTo (exec .tElapsedUs { State.reset with params := { ticksPerUs := 4 }, arg := 100, cnt := 108 })
      (fun t => decide (t.result = 2)) = true := by decide

/-- V5. -/
theorem test_tDelayUs_accepted :
    leadsTo (exec .tDelayUs { State.reset with arg := 40, cnt := 500 })
      (fun t => decide (t.status = 0x0000A001 ∧ t.dnReg = 40 ∧ t.sReg = 500)) = true := by decide

/-- V44, instant 12. -/
theorem test_tDelayUs_refused_busy :
    leadsTo (exec .tDelayUs { waiting .startLow 10 with mode := .output, out := .low, arg := 9 })
      (fun t => decide (t.status = 0x01001019 ∧ t.dnReg = 0)) = true := by decide

/-- V11. -/
theorem test_lSetMode_keeps_latch :
    ({ State.reset with mode := .output, out := .low } : State).line = .low ∧
    leadsTo (exec (.lSetMode .input) { State.reset with mode := .output, out := .low })
      (fun t => decide (t.line = .high ∧ t.out = .low)) = true := by decide

/-- R152. -/
theorem test_lWrite_drives :
    leadsTo (exec (.lWrite .low) { State.reset with mode := .output }) (fun t => decide (t.line = .low)) = true := by decide

/-- V12. -/
theorem test_lWrite_refused_in_input : exec (.lWrite .low) State.reset = .refused .lineWriteInInputMode := rfl

/-- V13. -/
theorem test_lRead_samples :
    leadsTo (exec .lRead { State.reset with sensor := [.hold .low 1] }) (fun t => decide (t.sample = .low)) = true := by decide

/-- V12. -/
theorem test_lRead_refused_in_output :
    exec .lRead { State.reset with mode := .output } = .refused .lineReadInOutputMode := rfl

/-- R189. -/
theorem test_pIdle_waits :
    leadsTo (exec .pIdle State.reset) (fun t => decide (t = { State.reset with begun := true })) = true := by decide

/-- V10: 19999 µs after the acceptance the line is still driven Low; at 20000 `P.START_HIGH` is reached. -/
theorem test_pStartLow_holds_20000 :
    leadsTo (exec .pStartLow { waiting .startLow 19999 with mode := .output, out := .low })
      (fun t => decide (t.phase = .startLow)) = true ∧
    leadsTo (exec .pStartLow { waiting .startLow 20000 with mode := .output, out := .low })
      (fun t => decide (t.phase = .startHigh)) = true := by decide

/-- V10: driven High from the beginning, released after 30 µs. -/
theorem test_pStartHigh_drives_then_releases :
    leadsTo (exec .pStartHigh { waiting .startHigh 0 with begun := false, mode := .output, out := .low })
      (fun t => decide (t.lstate = .driveHigh ∧ t.phase = .startHigh)) = true ∧
    leadsTo (exec .pStartHigh { waiting .startHigh 30 with mode := .output })
      (fun t => decide (t.lstate = .input ∧ t.lineOe = false ∧ t.phase = .respWait)) = true := by decide

/-- V30, V29: the line Low at the first sample, and at the last. -/
theorem test_pRespWait_passes :
    leadsTo (exec .pRespWait { waitingAt .respWait 0 .low with begun := false })
      (fun t => decide (t.phase = .respLow)) = true ∧
    leadsTo (exec .pRespWait (waitingAt .respWait 100 .low)) (fun t => decide (t.phase = .respLow)) = true := by decide

/-- V28. -/
theorem test_pRespWait_times_out :
    leadsTo (exec .pRespWait (waitingAt .respWait 100 .high))
      (fun t => decide (t.status = 0x0000010A ∧ t.nReg = 100)) = true := by decide

/-- V31. -/
theorem test_pRespLow_window :
    leadsTo (exec .pRespLow (waitingAt .respLow 100 .high)) (fun t => decide (t.phase = .respHigh)) = true ∧
    leadsTo (exec .pRespLow (waitingAt .respLow 100 .low)) (fun t => decide (t.status = 0x0000020A)) = true := by decide

/-- V32. -/
theorem test_pRespHigh_window :
    leadsTo (exec .pRespHigh (waitingAt .respHigh 100 .low)) (fun t => decide (t.phase = .bitLow)) = true ∧
    leadsTo (exec .pRespHigh (waitingAt .respHigh 100 .high)) (fun t => decide (t.status = 0x0000020A)) = true := by decide

/-- V36: the leading low of bit 3. -/
theorem test_pBitLow_window :
    leadsTo (exec .pBitLow { waitingAt .bitLow 100 .high with bitidx := 3 })
      (fun t => decide (t.phase = .bitDelay)) = true ∧
    leadsTo (exec .pBitLow { waitingAt .bitLow 100 .low with bitidx := 3 })
      (fun t => decide (t.status = 0x0003030A)) = true := by decide

/-- V48: `d = 1`, the second sample. -/
theorem test_wait_second_sample :
    leadsTo (exec .pRespWait (waitingAt .respWait 1 .low)) (fun t => decide (t.phase = .respLow ∧ t.nReg = 1)) = true := by
  decide

/-- V38: the line still High 40 µs after the leading low reads as 1, Low as 0; V50: 22 becomes 45 at bit 7. -/
theorem test_pBitDelay_samples :
    leadsTo (exec .pBitDelay { waitingAt .bitDelay 40 .high with bitidx := 7, fb := [(0, 22)] })
      (fun t => decide (t.fb = [(0, 45)] ∧ t.phase = .bitHigh)) = true ∧
    leadsTo (exec .pBitDelay { waitingAt .bitDelay 40 .low with bitidx := 6, fb := [(0, 11)] })
      (fun t => decide (t.fb = [(0, 22)])) = true := by decide

/-- V50: the ninth bit goes to `FB[1]`; a 0x80 with a 0 shifted in leaves 0, which is not listed. -/
theorem test_pBitDelay_next_byte :
    leadsTo (exec .pBitDelay { waitingAt .bitDelay 40 .high with bitidx := 8, fb := [(0, 45)] })
      (fun t => decide (t.fb = [(0, 45), (1, 1)])) = true ∧
    leadsTo (exec .pBitDelay { waitingAt .bitDelay 40 .low with bitidx := 8, fb := [(0, 45), (1, 0x80)] })
      (fun t => decide (t.fb = [(0, 45)])) = true := by decide

/-- R181: the 39th bit leads to the next, the 40th to `P.VALIDATE`. -/
theorem test_pBitHigh_counts :
    leadsTo (exec .pBitHigh { waitingAt .bitHigh 0 .low with begun := false, bitidx := 38 })
      (fun t => decide (t.phase = .bitLow ∧ t.bitidx = 39)) = true ∧
    leadsTo (exec .pBitHigh { waitingAt .bitHigh 0 .low with begun := false, bitidx := 39 })
      (fun t => decide (t.phase = .validate ∧ t.bitidx = 40)) = true := by decide

/-- V41: bit 19 not followed by a Low. -/
theorem test_pBitHigh_times_out :
    leadsTo (exec .pBitHigh { waitingAt .bitHigh 100 .high with bitidx := 19 })
      (fun t => decide (t.status = 0x0013030A)) = true := by decide

/-- V16, V18, V26; and R156: after a success the line is not driven, in whatever mode `P.VALIDATE` found it. -/
theorem test_pValidate_success :
    leadsTo (exec .pValidate (received 45 0 23 0 68))
      (fun t => decide (t.status = 0x0028000E ∧ t.reading.word = 0x0017002D)) = true ∧
    leadsTo (exec .pValidate (received 100 0 85 0 185))
      (fun t => decide (t.status = 0x0028000E ∧ t.reading.word = 0x00550064)) = true ∧
    leadsTo (exec .pValidate (received 100 56 85 15 0))
      (fun t => decide (t.status = 0x0028000E ∧ t.reading.word = 0x0F553864)) = true ∧
    leadsTo (exec .pValidate { received 45 0 23 0 68 with mode := .output })
      (fun t => decide (t.owned = false ∧ t.lineOe = false ∧ t.okFlag = true)) = true := by decide

/-- V17, V20, V21, V24, V27. -/
theorem test_pValidate_failures :
    leadsTo (exec .pValidate (received 45 0 23 0 67)) (fun t => decide (t.status = 0x0028040A)) = true ∧
    leadsTo (exec .pValidate (received 101 0 23 0 124)) (fun t => decide (t.status = 0x0028050A)) = true ∧
    leadsTo (exec .pValidate (received 45 0 86 0 131)) (fun t => decide (t.status = 0x0028050A)) = true ∧
    leadsTo (exec .pValidate (received 255 255 255 255 252)) (fun t => decide (t.status = 0x0028050A)) = true ∧
    leadsTo (exec .pValidate (received 101 0 23 0 0)) (fun t => decide (t.status = 0x0028040A)) = true := by decide

/-- V5: busy 39 µs after the acceptance, idle at 40. -/
theorem test_pHostDelay_ends :
    leadsTo (exec .pHostDelay { State.reset with phase := .hostDelay, dnReg := 40, sReg := 500, cnt := 539 })
      (fun t => decide (t.status = 0x0000A001)) = true ∧
    leadsTo (exec .pHostDelay { State.reset with phase := .hostDelay, dnReg := 40, sReg := 500, cnt := 540 })
      (fun t => decide (t.status = 0x00000000)) = true := by decide

/-! ## The step -/

/-- V16a: an illegal command word, issued. -/
theorem test_step_illegal_command :
    leadsTo (step { State.reset with issue := some (.h 0x102) }) (fun t => decide (t.status = 0x00000010)) = true := by decide

/-- V17a: `WR 7`, `RD 0` and `WR ARG`. -/
theorem test_step_host_accesses :
    leadsTo (step { idling with hostProg := [.wr 7 5] })
      (fun t => decide (t = { idling with stage := .afterHost })) = true ∧
    leadsTo (step { idling with hostProg := [.rd 0] }) (fun t => decide (t.hrdata = some 0)) = true ∧
    leadsTo (step { idling with hostProg := [.wr 1 0xDEADBEEF] }) (fun t => decide (t.arg = 0xDEADBEEF)) = true := by decide

/-- R130: the counter wraps. -/
theorem test_step_counter_wraps :
    leadsTo (step { idling with stage := .afterHost, cnt := 0xFFFFFFFF }) (fun t => decide (t.cnt = 0)) = true := by decide

/-- V53: the tick of reset in a transaction. -/
theorem test_step_reset_pin :
    leadsTo (step { waiting .respWait 70 with rst := [.hold true 1] })
      (fun t => decide (t.status = 0 ∧ t.lineOe = false ∧ t.cnt = 0 ∧ t.doneFlag = false ∧ t.err = .noError)) = true := by
  decide

/-- A line Low for ever, and one that is a free function (R11): the wait of `P.RESP_LOW` on the first fails (V33). -/
theorem test_sensor_not_only_finite :
    (∀ n, ({ State.reset with sensor := [.always .low] } : State).sensorAt n = .low) ∧
    (∀ n, ({ State.reset with sensor := [.free 3 7] } : State).sensorAt n = Config.freeSensor 3 (7 + n)) ∧
    leadsTo (exec .pRespLow { waitingAt .respLow 100 .low with sensor := [.always .low] })
      (fun t => decide (t.status = 0x0000020A)) = true :=
  ⟨fun _ => rfl, fun _ => rfl, by decide⟩

/-- A placed word is what the next step runs: `S.INITIALIZE`, `P.START_LOW`, `L.READ` as the first after reset. -/
theorem test_withFetchWord_runs :
    leadsTo (step (State.reset.withFetchWord 32 0x01)) (fun t => decide (t.initFlag = true)) = true ∧
    leadsTo (step (State.reset.withFetchWord 4 0x1)) (fun t => decide (t.phase = .startLow ∧ t.begun = true)) = true ∧
    leadsTo (step (State.reset.withFetchWord 9 0x044)) (fun t => decide (t.sample = .high)) = true := by decide

/-! ## A state that meets the hypotheses of each statement

One theorem a statement that has hypotheses, under the statement's name; a statement with several clauses has them all,
at the boundary values of their ranges. -/

/-- From a test of the next state to the next state. -/
theorem exists_of_leadsTo {r : Result} {P : State → Prop} [DecidablePred P]
    (h : leadsTo r (fun t => decide (P t)) = true) : ∃ t, r = .next t ∧ P t := by
  cases r with
  | next t => exact ⟨t, rfl, of_decide_eq_true h⟩
  | fault f => cases h
  | refused q => cases h

/-- A machine in which the word `w` has been issued. -/
def issuing (w : CodeWord) : State := { State.reset with issue := some w }

/-- In `P.START_LOW`, the line driven Low. -/
def startingLow (n : Nat) : State := { waiting .startLow n with mode := .output, out := .low }

/-- In `P.START_HIGH`, the line driven High. -/
def startingHigh (n : Nat) : State := { waiting .startHigh n with mode := .output }

/-- The same block not yet begun. -/
def fresh (s : State) : State := { s with begun := false }

theorem witness_IllegalCommandWordRefused :
    (issuing (.h 0x100)).inReset = false ∧ (issuing (.h 0x100)).issue = some (.h 0x100) ∧
    (0x100#32).extractLsb' 8 24 ≠ 0 ∧ (0x80000001#32).extractLsb' 8 24 ≠ 0 ∧
    ((0x00#32).extractLsb' 0 8).toNat ∉ [0x01, 0x02, 0x10, 0x11, 0x12] ∧
    ((0xFF#32).extractLsb' 0 8).toNat ∉ [0x01, 0x02, 0x10, 0x11, 0x12] := by decide

theorem witness_StepRunsFetchedInstruction :
    ((issuing (.h 0x10)).inReset = false ∧ (issuing (.h 0x10)).issue = some (.h 0x10) ∧
      decode (.h 0x10) = .ok .tStart) ∧
    (State.reset.inReset = false ∧ State.reset.issue = none ∧ State.reset.enabled = true ∧
      decode (.p State.reset.phase.code) = .ok .pIdle) ∧
    ((startingLow 20000).inReset = false ∧ (startingLow 20000).issue = none ∧ (startingLow 20000).enabled = true ∧
      decode (.p (startingLow 20000).phase.code) = .ok .pStartLow) := by decide

theorem witness_PlacedWordRunsNext :
    decodeTableWord 32 0x12 = some .tDelayUs ∧ decodeTableWord 9 0x045 = none ∧
    decodeTableWord 9 0x041 = some (.lSetMode .output) ∧ decodeTableWord 16 0x041 = some (.lSetMode .output) ∧
    decodeTableWord 4 10 = some .pHostDelay ∧ decodeTableWord 8 10 = some .pHostDelay := by decide

theorem witness_QuiescentInstantHasHostTurnThenTick :
    idling.inReset = false ∧ idling.quiescent = true ∧ idling.stage = .beforeHost ∧
    ({ idling with stage := .afterHost } : State).quiescent = true ∧
    (startingLow 19999).quiescent = true ∧ (startingLow 20000).quiescent = false := by decide

theorem witness_CounterWrittenOnlyByTickOrReset :
    (∃ t, step { idling with stage := .afterHost } = .next t ∧ t.cnt ≠ idling.cnt) ∧
    ∃ t, step { startingLow 7 with rst := [.hold true 1] } = .next t ∧ t.cnt ≠ (startingLow 7).cnt :=
  ⟨exists_of_leadsTo (by decide), exists_of_leadsTo (by decide)⟩

theorem witness_LineStateAndLevelFollowLineBits :
    State.reset.owned = false ∧ State.reset.mode = .input ∧
    ((waiting .respWait 0).owned = true ∧ (waiting .respWait 0).mode = .input) ∧
    ((startingLow 0).owned = true ∧ (startingLow 0).mode = .output ∧ (startingLow 0).out = .low) ∧
    ((startingHigh 0).owned = true ∧ (startingHigh 0).mode = .output ∧ (startingHigh 0).out = .high) := by decide

/-- Every index, from 0 to 7. -/
theorem witness_HostReadAnswersItsRegister :
    ∀ i < 8, ({ idling with hostProg := [.rd (BitVec.ofNat 3 i)] } : State).inReset = false ∧
      ({ idling with hostProg := [.rd (BitVec.ofNat 3 i)] } : State).quiescent = true ∧
      ({ idling with hostProg := [.rd (BitVec.ofNat 3 i)] } : State).stage = .beforeHost ∧
      ([0, idling.arg, idling.status, idling.reading.word, idling.result, idling.cnt, idling.handle,
        0][(BitVec.ofNat 3 i).toNat]?).isSome = true := by decide

theorem witness_HostWriteReachesItsRegister :
    ∀ i < 8, ({ idling with hostProg := [.wr (BitVec.ofNat 3 i) 9] } : State).inReset = false ∧
      ({ idling with hostProg := [.wr (BitVec.ofNat 3 i) 9] } : State).quiescent = true ∧
      ({ idling with hostProg := [.wr (BitVec.ofNat 3 i) 9] } : State).stage = .beforeHost ∧
      (i = 0 ∨ i = 1 ∨ 2 ≤ (BitVec.ofNat 3 i).toNat) := by decide

theorem witness_HostRegistersChangeOnlyByTheirOwners :
    (∃ t, step { idling with hostProg := [.wr 1 9] } = .next t ∧ t.arg ≠ idling.arg) ∧
    (∃ t, step { issuing (.h 0x01) with arg := 9 } = .next t ∧
      (t.handle ≠ (issuing (.h 0x01)).handle ∧ t.initFlag ≠ (issuing (.h 0x01)).initFlag)) ∧
    (∃ t, step { issuing (.h 0x10) with cnt := 9 } = .next t ∧ t.result ≠ (issuing (.h 0x10)).result) ∧
    ∃ t, step { issuing (.h 0x11) with cnt := 9 } = .next t ∧ t.result ≠ (issuing (.h 0x11)).result :=
  ⟨exists_of_leadsTo (by decide), exists_of_leadsTo (by decide), exists_of_leadsTo (by decide),
    exists_of_leadsTo (by decide)⟩

theorem witness_CommandsRefusedWithCmderrAlone :
    (startingLow 0).phase ≠ .idle ∧ State.reset.initFlag = false ∧
    decode (.h 0x00) = .error .reservedOpcode ∧ decode (.h 0x102) = .error .upperBitsNotZero := by decide

theorem witness_InitializeStoresHandle : State.reset.phase = .idle ∧ idling.phase = .idle := by decide

theorem witness_ReadStartsTransaction : idling.phase = .idle ∧ idling.initFlag = true := by decide

theorem witness_DelayCommandStartsHostDelay : State.reset.phase = .idle := by decide

theorem witness_BusyBlockIsUndisturbedByCommands :
    (startingLow 0).phase ≠ .idle ∧ (waiting .hostDelay 0).phase ≠ .idle := by decide

theorem witness_LineWriteDrivesInOutputMode :
    (startingLow 0).mode = .output ∧ State.reset.mode = .input := by decide

theorem witness_LineReadSamplesInInputMode :
    State.reset.mode = .input ∧ (startingLow 0).mode = .output := by decide

theorem witness_IdleWaitsForCommands : State.reset.phase = .idle ∧ idling.begun = true := by decide

/-- With the default hold and with a hold of 0; at the last microsecond of the hold and at its end. -/
theorem witness_StartLowHoldsItsTime :
    ((fresh (startingLow 0)).inside .startLow = false ∧ 0 < (startingLow 0).params.startLowUs) ∧
    (({ fresh (startingLow 0) with params := { startLowUs := 0 } } : State).inside .startLow = false ∧
      ({ fresh (startingLow 0) with params := { startLowUs := 0 } } : State).params.startLowUs = 0) ∧
    ((startingLow 19999).inside .startLow = true ∧ (startingLow 19999).sinceS < (startingLow 19999).params.startLowUs) ∧
    ((startingLow 20000).inside .startLow = true ∧
      (startingLow 20000).params.startLowUs ≤ (startingLow 20000).sinceS) := by decide

theorem witness_StartHighHoldsThenReleases :
    ((fresh (startingHigh 0)).inside .startHigh = false ∧ (fresh (startingHigh 0)).mode = .output ∧
      0 < (startingHigh 0).params.startHighUs) ∧
    (({ fresh (startingHigh 0) with params := { startHighUs := 0 } } : State).inside .startHigh = false ∧
      ({ fresh (startingHigh 0) with params := { startHighUs := 0 } } : State).mode = .output ∧
      ({ fresh (startingHigh 0) with params := { startHighUs := 0 } } : State).params.startHighUs = 0) ∧
    (State.reset.inside .startHigh = false ∧ State.reset.mode = .input) ∧
    ((startingHigh 29).inside .startHigh = true ∧
      (startingHigh 29).sinceS < (startingHigh 29).params.startHighUs) ∧
    ((startingHigh 30).inside .startHigh = true ∧
      (startingHigh 30).params.startHighUs ≤ (startingHigh 30).sinceS) := by decide

/-- Each of the four rows, at the first sample and at the last. -/
theorem witness_PlainWaitPassesWhenLineLeavesLevel :
    ∀ row ∈ plainWaits, ∀ l ∈ [Level.low, .high], l ≠ row.2.2.1 →
      (waitingAt row.2.1 0 l).mode = .input ∧ (waitingAt row.2.1 0 l).sensorAt 0 ≠ row.2.2.1 ∧
      (fresh (waitingAt row.2.1 0 l)).inside row.2.1 = false ∧
      (waitingAt row.2.1 100 l).inside row.2.1 = true ∧
      (waitingAt row.2.1 100 l).nReg.toNat + 1 ≤ (waitingAt row.2.1 100 l).sinceS := by decide

theorem witness_PlainWaitPollsAndTimesOut :
    ∀ row ∈ plainWaits,
      ({ waitingAt row.2.1 99 row.2.2.1 with nReg := 99 } : State).inside row.2.1 = true ∧
      ({ waitingAt row.2.1 99 row.2.2.1 with nReg := 99 } : State).sinceS < 99 + 1 ∧
      (waitingAt row.2.1 99 row.2.2.1).mode = .input ∧
      (waitingAt row.2.1 99 row.2.2.1).sensorAt 0 = row.2.2.1 ∧
      (fresh (waitingAt row.2.1 99 row.2.2.1)).inside row.2.1 = false ∧
      0 < (waitingAt row.2.1 99 row.2.2.1).params.timeoutUs ∧
      (waitingAt row.2.1 99 row.2.2.1).nReg.toNat + 1 ≤ (waitingAt row.2.1 99 row.2.2.1).sinceS ∧
      ((waitingAt row.2.1 99 row.2.2.1).nReg + 1).toNat ≠ 100 ∧
      (waitingAt row.2.1 100 row.2.2.1).nReg.toNat + 1 ≤ (waitingAt row.2.1 100 row.2.2.1).sinceS ∧
      ((waitingAt row.2.1 100 row.2.2.1).nReg + 1).toNat = (waitingAt row.2.1 100 row.2.2.1).params.timeoutUs ∧
      ({ fresh (waiting row.2.1 0) with mode := .output } : State).inside row.2.1 = false ∧
      ({ waiting row.2.1 1 with mode := .output } : State).nReg.toNat + 1 ≤ (waiting row.2.1 1).sinceS := by decide

theorem witness_BitDelaySamplesOnceAndShifts :
    ((fresh (waiting .bitDelay 0)).inside .bitDelay = false ∧ 0 < (waiting .bitDelay 0).params.bitSampleUs) ∧
    ({ waiting .bitDelay 40 with mode := .output } : State).inside .bitDelay = true ∧
    ((waiting .bitDelay 39).inside .bitDelay = true ∧ (waiting .bitDelay 39).sinceS < 40) ∧
    ∀ b ∈ [0, 39], ({ waiting .bitDelay 40 with bitidx := b } : State).inside .bitDelay = true ∧
      40 ≤ ({ waiting .bitDelay 40 with bitidx := b } : State).sinceS ∧
      ({ waiting .bitDelay 40 with bitidx := b } : State).mode = .input ∧
      ({ waiting .bitDelay 40 with bitidx := b } : State).bitidx.toNat < 40 := by decide

/-- At bit 0 and at bit 39, at the first sample and at the last. -/
theorem witness_BitHighCountsBitWhenLineIsLow :
    ∀ b ∈ [0, 39], ({ waitingAt .bitHigh 100 .low with bitidx := b } : State).mode = .input ∧
      ({ waitingAt .bitHigh 100 .low with bitidx := b } : State).sensorAt 0 = .low ∧
      ({ waitingAt .bitHigh 100 .low with bitidx := b } : State).bitidx.toNat < 40 ∧
      (fresh { waitingAt .bitHigh 100 .low with bitidx := b }).inside .bitHigh = false ∧
      ({ waitingAt .bitHigh 100 .low with bitidx := b } : State).inside .bitHigh = true ∧
      (waitingAt .bitHigh 100 .low).nReg.toNat + 1 ≤ (waitingAt .bitHigh 100 .low).sinceS := by decide

theorem witness_BitHighPollsAndTimesOut :
    (({ waiting .bitHigh 99 with nReg := 99 } : State).inside .bitHigh = true ∧
      ({ waiting .bitHigh 99 with nReg := 99 } : State).sinceS < 99 + 1) ∧
    ((fresh (waitingAt .bitHigh 0 .high)).mode = .input ∧ (fresh (waitingAt .bitHigh 0 .high)).sensorAt 0 = .high ∧
      (fresh (waitingAt .bitHigh 0 .high)).inside .bitHigh = false ∧
      ({ fresh (waiting .bitHigh 0) with mode := .output } : State).inside .bitHigh = false) ∧
    ((waitingAt .bitHigh 99 .high).inside .bitHigh = true ∧
      (waitingAt .bitHigh 99 .high).nReg.toNat + 1 ≤ (waitingAt .bitHigh 99 .high).sinceS ∧
      ((waitingAt .bitHigh 99 .high).nReg + 1).toNat ≠ 100) ∧
    ((waitingAt .bitHigh 100 .high).inside .bitHigh = true ∧
      (waitingAt .bitHigh 100 .high).nReg.toNat + 1 ≤ (waitingAt .bitHigh 100 .high).sinceS ∧
      ((waitingAt .bitHigh 100 .high).nReg + 1).toNat = 100) := by decide

/-- The greatest values in range (E4). -/
theorem witness_ValidateDeliversGoodFrame :
    (((received 100 0 85 0 185).frameByte 0).toNat + ((received 100 0 85 0 185).frameByte 1).toNat
        + ((received 100 0 85 0 185).frameByte 2).toNat + ((received 100 0 85 0 185).frameByte 3).toNat) % 256
      = ((received 100 0 85 0 185).frameByte 4).toNat ∧
    ((received 100 0 85 0 185).frameByte 0).toNat ≤ 100 ∧ ((received 100 0 85 0 185).frameByte 2).toNat ≤ 85 := by decide

/-- A bad checksum; the first byte one too great; the third byte one too great. -/
theorem witness_ValidateChecksChecksumBeforeRange :
    (received 45 0 23 0 67).checksum ≠ ((received 45 0 23 0 67).frameByte 4).toNat ∧
    ((received 101 0 23 0 124).checksum = ((received 101 0 23 0 124).frameByte 4).toNat ∧
      100 < ((received 101 0 23 0 124).frameByte 0).toNat) ∧
    ((received 45 0 86 0 131).checksum = ((received 45 0 86 0 131).frameByte 4).toNat ∧
      85 < ((received 45 0 86 0 131).frameByte 2).toNat) := by decide

theorem witness_HostDelayWaitsForItsOperand :
    ((waiting .hostDelay 39).phase = .hostDelay ∧
      ({ waiting .hostDelay 39 with dnReg := 40 } : State).sinceS < (40 : Word).toNat) ∧
    ((waiting .hostDelay 40).phase = .hostDelay ∧
      (40 : Word).toNat ≤ ({ waiting .hostDelay 40 with dnReg := 40 } : State).sinceS) := by decide

theorem witness_ShiftWritesOneFrameByte :
    ∀ b ∈ [0, 39], ({ received 45 0 23 0 68 with bitidx := b } : State).fb.wf = true ∧
      ({ received 45 0 23 0 68 with bitidx := b } : State).bitidx.toNat < 40 := by decide

theorem witness_BitDelayStoresAtItsBytesAddressAlone :
    ∀ b ∈ [0, 39], ({ waiting .bitDelay 40 with bitidx := b, fb := [(0, 45)] } : State).inside .bitDelay = true ∧
      40 ≤ ({ waiting .bitDelay 40 with bitidx := b, fb := [(0, 45)] } : State).sinceS ∧
      ({ waiting .bitDelay 40 with bitidx := b, fb := [(0, 45)] } : State).mode = .input ∧
      ({ waiting .bitDelay 40 with bitidx := b, fb := [(0, 45)] } : State).bitidx.toNat < 40 ∧
      ({ waiting .bitDelay 40 with bitidx := b, fb := [(0, 45)] } : State).fb.wf = true := by decide

theorem witness_ShiftPastFrameFaults :
    40 ≤ ({ State.reset with bitidx := 40 } : State).bitidx.toNat ∧
    40 ≤ ({ State.reset with bitidx := 63 } : State).bitidx.toNat := by decide

/-- The first byte and the last. -/
theorem witness_EightBitsAssembleByteMsbFirst :
    ∀ i ∈ [0, 4], i < 5 ∧ [false, false, true, false, true, true, false, true].length = 8 ∧
      ({ State.reset with bitidx := BitVec.ofNat 6 (8 * i), fb := [(1, 7)] } : State).fb.wf = true ∧
      ({ State.reset with bitidx := BitVec.ofNat 6 (8 * i), fb := [(1, 7)] } : State).bitidx.toNat = 8 * i ∧
      ({ State.reset with bitidx := BitVec.ofNat 6 (8 * i), fb := [(1, 7)] } : State).frameByte i = 0 := by decide

/-- Bit 0 and bit 7 of byte 4 flipped (V43). -/
theorem witness_FlippedChecksumBitIsDetected :
    (received 45 0 23 0 68).checksum = ((received 45 0 23 0 68).frameByte 4).toNat ∧
    (∀ j, j < 4 → (received 45 0 23 0 69).frameByte j = (received 45 0 23 0 68).frameByte j) ∧
    (received 45 0 23 0 69).frameByte 4 = (received 45 0 23 0 68).frameByte 4 ^^^ (1#8 <<< 0) ∧
    (∀ j, j < 4 → (received 45 0 23 0 196).frameByte j = (received 45 0 23 0 68).frameByte j) ∧
    (received 45 0 23 0 196).frameByte 4 = (received 45 0 23 0 68).frameByte 4 ^^^ (1#8 <<< 7) := by decide

theorem witness_ResetPinForcesResetValues :
    ({ startingLow 7 with rst := [.hold true 1] } : State).inReset = true ∧
    ({ idling with rst := [.hold true 9], hostProg := [.rd 2], doneFlag := true } : State).inReset = true := by decide

/-- Across the counter's wrap, and one tick short of a whole period. -/
theorem witness_ElapsedIsTrueTimeWithinOnePeriod :
    0xFFFFFFF0 ≤ 0x100000010 ∧ ({ State.reset with cnt := 0x10 } : State).cnt = BitVec.ofNat 32 0x100000010 ∧
    0x100000010 - 0xFFFFFFF0 < 2 ^ 32 ∧ 1 ≤ 2 ^ 32 ∧ State.reset.cnt = BitVec.ofNat 32 (2 ^ 32) ∧
    2 ^ 32 - 1 < 2 ^ 32 := by decide

/-- V9, and the least operand that is too long. -/
theorem witness_OverlongDelayNeverEnds :
    (2 ^ 32 - 1) / ({ ticksPerUs := 4 } : Params).ticksPerUs < (0x40000000 : Word).toNat ∧
    ∃ t, step { waiting .hostDelay 5 with dnReg := 0x40000000, params := { ticksPerUs := 4 } } = .next t ∧
      (({ waiting .hostDelay 5 with dnReg := 0x40000000, params := { ticksPerUs := 4 } } : State).inReset = false ∧
        (waiting .hostDelay 5).issue = none ∧ (waiting .hostDelay 5).phase = .hostDelay) :=
  ⟨by decide, exists_of_leadsTo (by decide)⟩

/-! Invariant states in the middle of a transaction. -/

/-- Every clause of the invariant by evaluation, but for its quantified last one. -/
theorem machineInv_of_clauses {s : State} (h1 : s.cnt = BitVec.ofNat 32 s.time) (h2 : s.fb.wf = true)
    (h3 : s.phase = .idle ∨ s.phase = .hostDelay → s.owned = false ∧ s.mode = .input)
    (h4 : s.phase = .startLow → s.owned = true ∧ s.mode = .output ∧ s.out = .low)
    (h5 : s.phase = .startHigh → s.owned = true ∧ s.mode = .output ∧ (s.begun = true → s.out = .high))
    (h6 : s.phase ∈ releasedPhases → s.owned = true ∧ s.mode = .input)
    (h7 : s.bitidx.toNat ≤ 40 ∧ (s.phase ∈ handshakePhases → s.bitidx = 0) ∧
      (s.phase ∈ bitPhases → s.bitidx.toNat < 40) ∧ (s.phase = .validate → s.bitidx.toNat = 40 ∧ s.begun = false))
    (h8 : s.okFlag = true →
      s.doneFlag = true ∧ s.err = .noError ∧ s.reading.pi.toNat ≤ s.params.primaryMax ∧
        s.reading.si.toNat ≤ s.params.secondaryMax)
    (h9 : s.doneFlag = true → s.okFlag = false → s.err ≠ .noError)
    (h10 : s.phase ≠ .idle ∧ s.phase ≠ .hostDelay →
      s.initFlag = true ∧ s.doneFlag = false ∧ s.okFlag = false ∧ s.err = .noError)
    (h11 : s.nReg.toNat ≤ s.params.timeoutUs ∧
      (s.phase ∈ guardedPhases → s.begun = true → s.nReg.toNat < s.params.timeoutUs) ∧ s.params.timeoutUs < 128)
    (h12 : s.issue = none) : MachineInv s :=
  ⟨h1, h2, h3, h4, h5, h6, h7.1, h7.2.1, h7.2.2.1, h7.2.2.2, h8, h9, h10, h11.1, h11.2.1, h11.2.2, fun c hc => by
    rw [h12] at hc
    cases hc⟩

theorem witness_BootStateHasMachineInv :
    ({} : Params).timeoutLegal = true ∧ ({ timeoutUs := 127 } : Params).timeoutLegal = true := by decide

theorem witness_StepKeepsMachineInv :
    (MachineInv (waitingAt .respWait 100 .high) ∧
      ∃ t, step (waitingAt .respWait 100 .high) = .next t ∧ t.err = .noResponse) ∧
    MachineInv { waiting .bitDelay 40 with bitidx := 39 } ∧
      ∃ t, step { waiting .bitDelay 40 with bitidx := 39 } = .next t ∧ t.phase = .bitHigh :=
  ⟨⟨machineInv_of_clauses (by decide) (by decide) (by decide) (by decide) (by decide) (by decide) (by decide) (by decide)
      (by decide) (by decide) (by decide) rfl, exists_of_leadsTo (by decide)⟩,
    machineInv_of_clauses (by decide) (by decide) (by decide) (by decide) (by decide) (by decide) (by decide) (by decide)
      (by decide) (by decide) (by decide) rfl, exists_of_leadsTo (by decide)⟩

theorem witness_InvariantStateNeverStops : MachineInv (startingHigh 30) :=
  machineInv_of_clauses (by decide) (by decide) (by decide) (by decide) (by decide) (by decide) (by decide) (by decide)
    (by decide) (by decide) (by decide) rfl

/-- From reset: `S.INITIALIZE`, then `S.READ`, then quiescent in `P.START_LOW` (P1 of 95_test_vectors.md). -/
theorem witness_ReachableQuiescentStatesAreSound :
    ∃ t, Reachable t ∧ t.params.documented = true ∧ t.quiescent = true ∧ t.phase = .startLow := by
  have h : ∃ t, Sys2Proof.core.run 8 (bootState {} [] [] [.wr 0 0x01, .wr 0 0x02]) = .next t ∧
      (t.params.documented = true ∧ t.quiescent = true ∧ t.phase = .startLow) := exists_of_leadsTo (by decide)
  obtain ⟨t, ht, hq⟩ := h
  exact ⟨t, Reachable.run (Reachable.boot {} [] [] _ rfl) ht, hq⟩

theorem witness_ReadingChangesOnlyOnSuccess :
    (received 45 0 23 0 68).inReset = false ∧
    ∃ t, step (received 45 0 23 0 68) = .next t ∧ t.reading ≠ (received 45 0 23 0 68).reading :=
  ⟨by decide, exists_of_leadsTo (by decide)⟩

/-- A success, and a failure. -/
theorem witness_TerminalUpdateIsOneStep :
    (MachineInv (received 45 0 23 0 68) ∧ (received 45 0 23 0 68).inReset = false ∧
      (received 45 0 23 0 68).doneFlag = false ∧
      ∃ t, step (received 45 0 23 0 68) = .next t ∧ (t.doneFlag = true ∧ t.okFlag = true)) ∧
    MachineInv (received 45 0 23 0 67) ∧
      ∃ t, step (received 45 0 23 0 67) = .next t ∧ (t.doneFlag = true ∧ t.okFlag = false) :=
  ⟨⟨machineInv_of_clauses (by decide) (by decide) (by decide) (by decide) (by decide) (by decide) (by decide) (by decide)
      (by decide) (by decide) (by decide) rfl, by decide, by decide, exists_of_leadsTo (by decide)⟩,
    machineInv_of_clauses (by decide) (by decide) (by decide) (by decide) (by decide) (by decide) (by decide) (by decide)
      (by decide) (by decide) (by decide) rfl, exists_of_leadsTo (by decide)⟩

theorem witness_PhaseMovesAlongTheSequence :
    MachineInv (startingLow 20000) ∧ (startingLow 20000).inReset = false ∧
    ∃ t, step (startingLow 20000) = .next t ∧ t.phase ≠ (startingLow 20000).phase :=
  ⟨machineInv_of_clauses (by decide) (by decide) (by decide) (by decide) (by decide) (by decide) (by decide) (by decide)
    (by decide) (by decide) (by decide) rfl, by decide, exists_of_leadsTo (by decide)⟩

/-- A delay of 0, and the longest that ends. -/
theorem witness_HostDelayLastsExactlyItsOperand :
    ∀ n ∈ [(0 : Word), 0xFFFFFFFF], (fresh { waiting .hostDelay 0 with dnReg := n }).phase = .hostDelay ∧
      (fresh { waiting .hostDelay 0 with dnReg := n }).begun = false ∧
      (fresh { waiting .hostDelay 0 with dnReg := n }).sReg = (fresh { waiting .hostDelay 0 with dnReg := n }).cnt ∧
      (fresh { waiting .hostDelay 0 with dnReg := n }).issue = none ∧
      (fresh { waiting .hostDelay 0 with dnReg := n }).rst = [] ∧
      0 < (fresh { waiting .hostDelay 0 with dnReg := n }).params.ticksPerUs ∧
      n.toNat ≤ (2 ^ 32 - 1) / (fresh { waiting .hostDelay 0 with dnReg := n }).params.ticksPerUs :=
  fun n _ => ⟨rfl, rfl, rfl, rfl, rfl, Nat.one_pos, by
    have h := n.isLt
    show n.toNat ≤ (2 ^ 32 - 1) / 1
    omega⟩

/-- The release instant, with a line High for ever. -/
def released : State := fresh (waiting .respWait 0)

theorem witness_SilentLineEndsInNoResponse :
    MachineInv released ∧ released.phase = .respWait ∧ released.begun = false ∧ released.issue = none ∧
    released.rst = [] ∧ released.params.legal = true ∧ released.params.documented = true ∧
    released.params.holdsEnd = true ∧
    ∀ j, j ≤ 100 → released.sensorAt (released.params.us j) = .high :=
  ⟨machineInv_of_clauses (by decide) (by decide) (by decide) (by decide) (by decide) (by decide) (by decide) (by decide)
    (by decide) (by decide) (by decide) rfl, rfl, rfl, rfl, rfl, by decide, by decide, by decide, fun _ _ => rfl⟩

/-- The line Low at once, and Low at the last sample (V29, V30). -/
theorem witness_ResponseIsSeenAtItsFirstLowSample :
    (MachineInv { released with sensor := [.hold .low 80] } ∧
      ({ released with sensor := [.hold .low 80] } : State).sensorAt 0 = .low) ∧
    MachineInv { released with sensor := [.hold .high 100, .hold .low 80] } ∧
      (∀ j, j < 100 → ({ released with sensor := [.hold .high 100, .hold .low 80] } : State).sensorAt (released.params.us j) = .high) ∧
      ({ released with sensor := [.hold .high 100, .hold .low 80] } : State).sensorAt (released.params.us 100) = .low :=
  ⟨⟨machineInv_of_clauses (by decide) (by decide) (by decide) (by decide) (by decide) (by decide) (by decide) (by decide)
      (by decide) (by decide) (by decide) rfl, rfl⟩,
    machineInv_of_clauses (by decide) (by decide) (by decide) (by decide) (by decide) (by decide) (by decide) (by decide)
      (by decide) (by decide) (by decide) rfl, fun j hj => if_pos (show j * 1 < 100 by omega), rfl⟩

theorem witness_TransactionEndsWithinBound :
    MachineInv (fresh (startingLow 0)) ∧ (fresh (startingLow 0)).phase = .startLow ∧
    (fresh (startingLow 0)).begun = false ∧ (fresh (startingLow 0)).issue = none ∧ (fresh (startingLow 0)).rst = [] ∧
    (fresh (startingLow 0)).params.legal = true ∧ (fresh (startingLow 0)).params.documented = true ∧
    (fresh (startingLow 0)).params.holdsEnd = true :=
  ⟨machineInv_of_clauses (by decide) (by decide) (by decide) (by decide) (by decide) (by decide) (by decide) (by decide)
    (by decide) (by decide) (by decide) rfl, rfl, rfl, rfl, rfl, by decide, by decide, by decide⟩

/-- The frame of E1. -/
def acceptedWithFrame : State :=
  { fresh (startingLow 0) with sensor := transactionWave {} 45 0 23 0 68 }

theorem witness_NominalFrameIsDelivered :
    MachineInv acceptedWithFrame ∧ acceptedWithFrame.phase = .startLow ∧ acceptedWithFrame.begun = false ∧
    acceptedWithFrame.issue = none ∧ acceptedWithFrame.rst = [] ∧ acceptedWithFrame.fb = [] ∧
    acceptedWithFrame.params.legal = true ∧ acceptedWithFrame.params.documented = true ∧
    acceptedWithFrame.params.holdsEnd = true ∧
    acceptedWithFrame.sensor = transactionWave acceptedWithFrame.params 45 0 23 0 68 ∧
    ((45 : Byte).toNat + (0 : Byte).toNat + (23 : Byte).toNat + (0 : Byte).toNat) % 256 = (68 : Byte).toNat ∧
    (45 : Byte).toNat ≤ 100 ∧ (23 : Byte).toNat ≤ 85 :=
  ⟨machineInv_of_clauses (by decide) (by decide) (by decide) (by decide) (by decide) (by decide) (by decide) (by decide)
    (by decide) (by decide) (by decide) rfl, rfl, rfl, rfl, rfl, rfl, by decide, by decide, by decide, rfl, by decide, by decide,
    by decide⟩

end Sys2Proof.Tests
end

section
/-! What an instant fetches and runs (R13): the word issued, else the enabled phase, else the host's turn and the tick. -/

namespace Sys2Proof.Machine

/-! ## The fetch -/

theorem State.fetch_of_issue {s : State} {w : CodeWord} (hr : s.inReset = false) (hi : s.issue = some w) :
    s.fetch = some w := by
  simp [State.fetch, hr, hi]

theorem State.fetch_of_enabled {s : State} (hr : s.inReset = false) (hi : s.issue = none) (he : s.enabled = true) :
    s.fetch = some (.p s.phase.code) := by
  simp [State.fetch, hr, hi, he]

theorem State.quiescent_iff {s : State} : s.quiescent = true ↔ s.issue = none ∧ s.enabled = false := by
  simp [State.quiescent]

theorem State.fetch_of_quiescent {s : State} (hq : s.quiescent = true) : s.fetch = none := by
  obtain ⟨hi, he⟩ := State.quiescent_iff.mp hq
  simp [State.fetch, hi, he]

/-- A state with no word issued is as it is with its issue slot emptied. -/
theorem State.clearIssue_of_none {s : State} (hi : s.issue = none) : { s with issue := none } = s := by
  rw [← hi]

/-! ## What is run -/

theorem runWord_of_decode {w : CodeWord} {i : Instr} (h : decode w = .ok i) (s : State) : runWord w s = exec i s := by
  simp [runWord, h]

theorem advance_beforeHost {s : State} (hr : s.inReset = false) (hs : s.stage = .beforeHost) :
    advance s = hostTurn s := by
  simp [advance, hr, hs]

theorem advance_afterHost {s : State} (hr : s.inReset = false) (hs : s.stage = .afterHost) : advance s = tick s := by
  simp [advance, hr, hs]

/-- The tick outside reset (R130). -/
theorem tick_outsideReset {s : State} (hr : s.inReset = false) :
    tick s =
      { s with
        cnt := s.cnt + 1, time := s.time + 1, sensor := Wave.later s.sensor, rst := Wave.later s.rst
        hrdata := none, stage := .beforeHost } := by
  simp [tick, hr]

/-! ## The step -/

theorem step_of_issue {s : State} {w : CodeWord} (hr : s.inReset = false) (hi : s.issue = some w) :
    step s = runWord w { s with issue := none } :=
  step_of_fetch (State.fetch_of_issue hr hi)

theorem step_of_enabled {s : State} (hr : s.inReset = false) (hi : s.issue = none) (he : s.enabled = true) :
    step s = runWord (.p s.phase.code) s := by
  rw [step_of_fetch (State.fetch_of_enabled hr hi he), State.clearIssue_of_none hi]

theorem step_of_quiescent {s : State} (hq : s.quiescent = true) : step s = .next (advance s) :=
  step_of_no_fetch (State.fetch_of_quiescent hq)

/-! ## The obligations of 00_scope.md -/

/-- Settles O4: the fetch is the issued word, or else the enabled phase's code, and running a word that decodes is
executing its operation. -/
theorem stepRunsFetchedInstruction : Obligations.StepRunsFetchedInstruction := by
  unfold Obligations.StepRunsFetchedInstruction
  constructor
  · intro s c i hr hi hd
    rw [step_of_issue hr hi, runWord_of_decode hd]
  · intro s i hr hi he hd
    rw [step_of_enabled hr hi he, runWord_of_decode hd]

/-- Settles O6: a quiescent state fetches nothing, so its step is the part of the instant its stage names. -/
theorem quiescentInstantHasHostTurnThenTick : Obligations.QuiescentInstantHasHostTurnThenTick := by
  unfold Obligations.QuiescentInstantHasHostTurnThenTick
  intro s hr hq
  constructor
  · intro hs
    rw [step_of_quiescent hq, advance_beforeHost hr hs]
  · intro hs
    rw [step_of_quiescent hq, advance_afterHost hr hs, tick_outsideReset hr]

end Sys2Proof.Machine
end

section
/-! The words the host reads and the line's level (10_state.md): the fields of `STATUS` and `READING`, the Line State, the
end of the frame buffer, and the reset values. -/

namespace Sys2Proof.Machine

/-- The low part of a concatenation. -/
theorem extractLsb'_append_low {v w : Nat} (x : BitVec v) (y : BitVec w) : (x ++ y).extractLsb' 0 w = y := by
  rw [BitVec.extractLsb'_append_eq_of_add_le (by omega), BitVec.extractLsb'_eq_self]

theorem Reading.word_extractLsb' (r : Reading) (start len : Nat) :
    r.word.extractLsb' start len = BitVec.extractLsb' start len (r.sf ++ r.si ++ r.pf ++ r.pi) := rfl

/-- Settles O9: each byte of the concatenation, from the low one up. -/
theorem readingWordHasItsBytes : Obligations.ReadingWordHasItsBytes := by
  unfold Obligations.ReadingWordHasItsBytes
  intro r
  simp only [Reading.word_extractLsb', BitVec.extractLsb'_append_eq_of_le, extractLsb'_append_low, Nat.reduceLeDiff,
    Nat.reduceSub, Nat.le_refl]
  simp

theorem State.status_extractLsb' (s : State) (start len : Nat) :
    s.status.extractLsb' start len = BitVec.extractLsb' start len
      (0#6 ++ s.lstate.code ++ 0#2 ++ s.bitidx ++ s.phase.code ++ 0#1 ++ s.err.code ++ 0#3 ++
        BitVec.ofBool s.cmderrFlag ++ BitVec.ofBool s.initFlag ++ BitVec.ofBool s.okFlag ++ BitVec.ofBool s.doneFlag ++
        BitVec.ofBool s.busy) := rfl

/-- A bit as a field of its own. -/
theorem getLsbD_eq_extractLsb' {w : Nat} (x : BitVec w) (i : Nat) : x.getLsbD i = (x.extractLsb' i 1).getLsbD 0 := by
  simp

/-- Settles O8: each field of the concatenation, from bit 0 up. -/
theorem statusWordHasItsFields : Obligations.StatusWordHasItsFields := by
  unfold Obligations.StatusWordHasItsFields
  intro s
  have hbusy : s.busy = decide (s.phase ≠ .idle) := by simp [State.busy]
  rw [← hbusy]
  simp only [getLsbD_eq_extractLsb' s.status, State.status_extractLsb', BitVec.extractLsb'_append_eq_of_le,
    extractLsb'_append_low, Nat.reduceLeDiff, Nat.reduceSub, Nat.le_refl]
  simp

/-- Settles O10: the definitions of the Line State and the level, in each state of the line bits. -/
theorem lineStateAndLevelFollowLineBits : Obligations.LineStateAndLevelFollowLineBits := by
  unfold Obligations.LineStateAndLevelFollowLineBits
  intro s
  refine ⟨fun ho => ?_, fun ho hm => ?_, fun ho hm hout => ?_, fun ho hm hout => ?_, fun hm => ?_, fun hm => ?_, rfl, rfl⟩
  · simp [State.lstate, ho]
  · simp [State.lstate, ho, hm]
  · simp [State.lstate, ho, hm, hout]
  · simp [State.lstate, ho, hm, hout]
  · simp [State.line, State.lineOe, hm]
  · simp [State.line, State.lineOe, State.sensorLevel, hm]

theorem storeFrameByte_of_ge {a : Nat} {v : Byte} {s : State} (h : 5 ≤ a) :
    storeFrameByte a v s = .fault (.noSuchFrameByte a) :=
  if_neg (Nat.not_lt.mpr h)

/-- Settles O37: past the 40th bit the address is past the five bytes. -/
theorem shiftPastFrameFaults : Obligations.ShiftPastFrameFaults := by
  unfold Obligations.ShiftPastFrameFaults
  intro s b h
  exact storeFrameByte_of_ge (show 5 ≤ s.bitidx.toNat / 8 by omega)

/-- Settles O41: the reset state is a literal, and its frame buffer lists no byte. -/
theorem resetStateHasSpecValues : Obligations.ResetStateHasSpecValues := by
  unfold Obligations.ResetStateHasSpecValues
  refine ⟨rfl, rfl, rfl, rfl, rfl, rfl, rfl, rfl, rfl, fun i => Memory.read_nil i, rfl, rfl, rfl, rfl, rfl, rfl, rfl, rfl, rfl,
    ?_, rfl⟩
  decide

end Sys2Proof.Machine
end

section
/-! What one step can do, said once (10_state.md, R13): the outcomes of a command word, of a Line Driver word, of the
block of a phase, and of the host's turn and the tick. The invariants below are case analyses of these. -/

namespace Sys2Proof.Machine

/-! ## Words and their codes -/

/-- A command word is its opcode when its upper bits are zero (R90). -/
theorem command_eq_opcode {w : BitVec 32} (hupper : w.extractLsb' 8 24 = 0) :
    w = BitVec.ofNat 32 (w.extractLsb' 0 8).toNat := by
  have hhigh : (w.extractLsb' 8 24).toNat = 0 := by rw [hupper]; rfl
  rw [BitVec.extractLsb'_toNat, Nat.shiftRight_eq_div_pow] at hhigh
  apply BitVec.eq_of_toNat_eq
  rw [BitVec.toNat_ofNat, BitVec.extractLsb'_toNat, Nat.shiftRight_zero]
  have hw := w.isLt
  omega

/-- A command word that decodes is the one word of its operation (R92). -/
theorem encode_of_decodeCommand {w : BitVec 32} {i : Instr} (h : decodeCommand w = .ok i) : encode i = .h w := by
  unfold decodeCommand at h
  split at h
  · rename_i hupper
    rw [command_eq_opcode hupper]
    split at h
    case h_6 => cases h
    all_goals
      rename_i hopcode
      rw [hopcode]
      cases h
      rfl
  · cases h

/-- A phase code that names a phase is that phase's own (R100). -/
theorem Phase.code_of_ofCode {c : BitVec 4} {p : Phase} (h : Phase.ofCode c = some p) : p.code = c := by
  revert c
  cases p <;> decide

@[simp] theorem Phase.ofCode_code (p : Phase) : Phase.ofCode p.code = some p := by
  cases p <;> rfl

theorem Phase.code_inj {p q : Phase} (h : p.code = q.code) : p = q := by
  have hpq : some p = some q := by rw [← Phase.ofCode_code p, h, Phase.ofCode_code]
  injection hpq

/-! ## Host commands -/

/-- What a command word can do (R34, R93, R220 to R222, R131 to R133). -/
inductive CommandOutcome (s : State) : BitVec 32 → State → Prop
  | refused (w : BitVec 32) : CommandOutcome s w (refuseCommand s)
  | initialized (hp : s.phase = .idle) :
      CommandOutcome s 0x01 { acceptCommand s with handle := s.arg, initFlag := true }
  | readStarted (hp : s.phase = .idle) (hi : s.initFlag = true) :
      CommandOutcome s 0x02
        { s with
          cmderrFlag := false, doneFlag := false, okFlag := false, err := .noError, fb := [], bitidx := 0
          owned := true, mode := .output, out := .low, phase := .startLow, begun := false }
  | timerStarted : CommandOutcome s 0x10 { acceptCommand s with result := s.cnt }
  | elapsedRead : CommandOutcome s 0x11 { acceptCommand s with result := s.elapsedUs s.arg }
  | delayStarted (hp : s.phase = .idle) :
      CommandOutcome s 0x12 (gotoPhase .hostDelay { acceptCommand s with dnReg := s.arg, sReg := s.cnt })

theorem State.busy_eq_false {s : State} : s.busy = false ↔ s.phase = .idle := by
  simp [State.busy]

theorem commandOutcome_of_runWord {w : BitVec 32} {s t : State} (h : runWord (.h w) s = .next t) :
    CommandOutcome s w t := by
  unfold runWord at h
  split at h
  · rename_i i hd
    have hw : encode i = .h w := encode_of_decodeCommand hd
    cases i with
    | sInitialize =>
      cases hw
      change execSInitialize s = _ at h
      unfold execSInitialize at h
      split at h <;> cases h
      · exact .refused _
      · exact .initialized (State.busy_eq_false.mp (by simpa using ‹¬s.busy = true›))
    | sRead =>
      cases hw
      change execSRead s = _ at h
      unfold execSRead at h
      split at h
      · cases h
        exact .refused _
      · rename_i hready
        rw [startTransaction_eq] at h
        cases h
        obtain ⟨hb, hi⟩ : s.busy = false ∧ s.initFlag = true := by simpa using hready
        exact .readStarted (State.busy_eq_false.mp hb) hi
    | tStart => cases hw; cases h; exact .timerStarted
    | tElapsedUs => cases hw; cases h; exact .elapsedRead
    | tDelayUs =>
      cases hw
      change execTDelayUs s = _ at h
      unfold execTDelayUs at h
      split at h <;> cases h
      · exact .refused _
      · exact .delayStarted (State.busy_eq_false.mp (by simpa using ‹¬s.busy = true›))
    | lSetMode _ | lWrite _ | lRead => cases hw
    | pIdle | pStartLow | pStartHigh | pRespWait | pRespLow | pRespHigh | pBitLow | pBitDelay | pBitHigh | pValidate
    | pHostDelay => cases hw
  · cases h
    exact .refused _

/-! ## Line Driver words -/

/-- What a Line Driver word can do (R151 to R153). -/
inductive LineOutcome (s : State) : State → Prop
  | modeSet (m : Mode) : LineOutcome s (setMode m s)
  | driven (v : Level) : LineOutcome s { s with out := v }
  | sampled : LineOutcome s { s with sample := s.sensorLevel }

theorem lineOutcome_of_runWord {w : BitVec 9} {s t : State} (h : runWord (.m w) s = .next t) : LineOutcome s t := by
  unfold runWord at h
  split at h
  · rename_i i hd
    change decodeMicro w = .ok i at hd
    unfold decodeMicro at hd
    split at hd
    · cases hd
      cases h
      exact .modeSet _
    · cases hd
      obtain ⟨-, rfl⟩ := lineWrite_next h
      exact .driven _
    · split at hd <;> cases hd
      obtain ⟨-, rfl⟩ := lineRead_next h
      exact .sampled
    · cases hd
  · cases h

/-! ## The block of a phase -/

/-- The state in which the hold of phase `p` is under way: as it stands inside the block, or just begun (R136). -/
inductive HoldState (p : Phase) (s : State) : State → Prop
  | inside (hi : s.inside p = true) : HoldState p s s
  | begins : HoldState p s (beginDelay p s)

/-- The same for the hold of `P.START_HIGH`, whose beginning drives the line High (R174). -/
inductive HighHoldState (s : State) : State → Prop
  | inside (hi : s.inside .startHigh = true) : HighHoldState s s
  | begins (hm : s.mode = .output) : HighHoldState s (beginDelay .startHigh { s with phase := .startHigh, out := .high })

/-- The state in which a guarded wait of phase `p` has just sampled the line: the first time, or once more (R171). -/
inductive SampleState (p : Phase) (s : State) : State → Prop
  | counted (hi : s.inside p = true) : SampleState p s { countPoll s with sample := s.sensorLevel }
  | first : SampleState p s { beginWait p s with sample := s.sensorLevel }

/-- What the block of phase `p` can do in an instant (R170, R137). -/
inductive PhaseOutcome (s : State) : Phase → State → Prop
  | notDue {p : Phase} (hi : s.inside p = true) : PhaseOutcome s p s
  | idles : PhaseOutcome s .idle { s with phase := .idle, begun := true }
  | lowHeld {x : State} (hx : HoldState .startLow s x) : PhaseOutcome s .startLow x
  | lowEnded {x : State} (hx : HoldState .startLow s x) : PhaseOutcome s .startLow (gotoPhase .startHigh x)
  | highHeld {x : State} (hx : HighHoldState s x) : PhaseOutcome s .startHigh x
  | highEnded {x : State} (hx : HighHoldState s x) :
      PhaseOutcome s .startHigh (gotoPhase .respWait (setMode .input x))
  | waitGoesOn {p : Phase} {x : State} (hp : p ∈ guardedPhases) (hx : SampleState p s x)
      (hn : x.nReg.toNat ≠ x.params.timeoutUs) : PhaseOutcome s p x
  | waitFailed {p : Phase} {e : ErrorKind} {x : State} (hp : p ∈ guardedPhases) (he : e ≠ .noError)
      (hx : SampleState p s x) : PhaseOutcome s p (failureExit e x)
  | waitPassed {i : Instr} {p q : Phase} {l : Level} {e : ErrorKind} {x : State} (hrow : (i, p, l, e, q) ∈ plainWaits)
      (hx : SampleState p s x) : PhaseOutcome s p (gotoPhase q x)
  | bitHeld {x : State} (hx : HoldState .bitDelay s x) : PhaseOutcome s .bitDelay x
  | bitStored {x : State} (hx : HoldState .bitDelay s x) (ha : x.frameAddress < 5) :
      PhaseOutcome s .bitDelay (gotoPhase .bitHigh
        { x with
          sample := x.sensorLevel
          fb := x.fb.write x.frameAddress (shiftIn (x.frameByte x.frameAddress) (Level.bit x.sensorLevel)) })
  | bitCompleted {x : State} (hx : SampleState .bitHigh s x) :
      PhaseOutcome s .bitHigh
        (gotoPhase (if (completeBit x).bitidx.toNat < 40 then .bitLow else .validate) (completeBit x))
  | frameRejected {e : ErrorKind} (he : e ≠ .noError) :
      PhaseOutcome s .validate (failureExit e (gotoPhase .validate s))
  | frameDelivered (hr : s.outOfRange = false) : PhaseOutcome s .validate (successExit (gotoPhase .validate s))
  | delayHeld : PhaseOutcome s .hostDelay { s with phase := .hostDelay, begun := true }
  | delayEnded : PhaseOutcome s .hostDelay (gotoPhase .idle { s with phase := .hostDelay, begun := true })

theorem delayIn_outcome {p : Phase} {n : Nat} {exit : State → Result} {s t : State} (h : delayIn p n exit s = .next t) :
    ∃ x, HoldState p s x ∧ (exit x = .next t ∨ t = x) := by
  obtain ⟨x, hx, h⟩ := delayIn_next h
  refine ⟨x, ?_, h.imp And.right And.right⟩
  split at hx <;> subst hx
  · exact .inside ‹_›
  · exact .begins

theorem waitWhile_outcome {p : Phase} {l : Level} {e : ErrorKind} {exit : State → Result} {s t : State}
    (h : waitWhile p l e exit s = .next t) :
    (s.inside p = true ∧ t = s) ∨ ∃ x, SampleState p s x ∧
      (exit x = .next t ∨ t = failureExit e x ∨ (x.nReg.toNat ≠ x.params.timeoutUs ∧ t = x)) := by
  rcases waitWhile_next h with ⟨hi, -, ht⟩ | ⟨y, hy, h⟩
  · exact .inl ⟨hi, ht⟩
  · obtain ⟨-, x, hx, hout⟩ := pollLine_next h
    refine .inr ⟨x, ?_, hout.imp And.right (.imp (fun hf => hf.2.2) And.right)⟩
    subst hx
    rcases hy with ⟨hi, -, rfl⟩ | ⟨-, rfl⟩
    · exact .counted hi
    · exact .first

/-- The waits that hand control on and do nothing else. -/
theorem plainWait_outcome {i : Instr} {p q : Phase} {l : Level} {e : ErrorKind} {s t : State}
    (hrow : (i, p, l, e, q) ∈ plainWaits) (h : waitWhile p l e (fun s => .next (gotoPhase q s)) s = .next t) :
    PhaseOutcome s p t := by
  obtain ⟨hp, he⟩ : p ∈ guardedPhases ∧ e ≠ .noError := by
    simp only [plainWaits, List.mem_cons, Prod.mk.injEq, List.not_mem_nil, or_false] at hrow
    rcases hrow with ⟨-, rfl, -, rfl, -⟩ | ⟨-, rfl, -, rfl, -⟩ | ⟨-, rfl, -, rfl, -⟩ | ⟨-, rfl, -, rfl, -⟩ <;> decide
  rcases waitWhile_outcome h with ⟨hi, rfl⟩ | ⟨x, hx, h | rfl | ⟨hn, rfl⟩⟩
  · exact .notDue hi
  · cases h
    exact .waitPassed hrow hx
  · exact .waitFailed hp he hx
  · exact .waitGoesOn hp hx hn

theorem bitDelay_outcome {s t : State} (h : execPBitDelay s = .next t) : PhaseOutcome s .bitDelay t := by
  obtain ⟨x, hx, h | rfl⟩ := delayIn_outcome h
  · obtain ⟨y, hy, h⟩ := andThen_eq_next h
    obtain ⟨-, rfl⟩ := lineRead_next hy
    obtain ⟨z, hz, h⟩ := andThen_eq_next h
    obtain ⟨ha, rfl⟩ := shiftBit_next hz
    cases h
    exact .bitStored (x := x) hx ha
  · exact .bitHeld hx

theorem bitHigh_outcome {s t : State} (h : execPBitHigh s = .next t) : PhaseOutcome s .bitHigh t := by
  rcases waitWhile_outcome h with ⟨hi, rfl⟩ | ⟨x, hx, h | rfl | ⟨hn, rfl⟩⟩
  · exact .notDue hi
  · cases h
    exact .bitCompleted hx
  · exact .waitFailed (by decide) (by decide) hx
  · exact .waitGoesOn (by decide) hx hn

theorem startLow_outcome {s t : State} (h : execPStartLow s = .next t) : PhaseOutcome s .startLow t := by
  obtain ⟨x, hx, h | rfl⟩ := delayIn_outcome h
  · cases h
    exact .lowEnded hx
  · exact .lowHeld hx

theorem startHigh_outcome {s t : State} (h : execPStartHigh s = .next t) : PhaseOutcome s .startHigh t := by
  obtain ⟨x, hx, h⟩ : ∃ x, HighHoldState s x ∧ hold s.params.startHighUs releaseToSensor x = .next t := by
    unfold execPStartHigh at h
    split at h
    · exact ⟨s, .inside ‹_›, h⟩
    · obtain ⟨y, hy, h⟩ := andThen_eq_next h
      obtain ⟨hm, rfl⟩ := lineWrite_next hy
      exact ⟨_, .begins hm, h⟩
  rcases hold_next h with ⟨-, h⟩ | ⟨-, rfl⟩
  · cases h
    exact .highEnded hx
  · exact .highHeld hx

theorem validate_outcome {s t : State} (h : execPValidate s = .next t) : PhaseOutcome s .validate t := by
  simp only [execPValidate] at h
  split at h
  · split at h <;> cases h
    · exact .frameRejected (by decide)
    · rename_i hrange
      exact .frameDelivered (Bool.eq_false_iff.mpr hrange)
  · cases h
    exact .frameRejected (by decide)

theorem hostDelay_outcome {s t : State} (h : execPHostDelay s = .next t) : PhaseOutcome s .hostDelay t := by
  rcases hold_next h with ⟨-, h⟩ | ⟨-, rfl⟩
  · cases h
    exact .delayEnded
  · exact .delayHeld

/-- The outcomes of a phase's operation are those of its block, phase by phase. -/
theorem phaseOutcome_of_exec {p : Phase} {s t : State} (h : exec p.instr s = .next t) : PhaseOutcome s p t := by
  cases p with
  | idle => cases h; exact .idles
  | startLow => exact startLow_outcome h
  | startHigh => exact startHigh_outcome h
  | respWait => exact plainWait_outcome (i := .pRespWait) (by decide) h
  | respLow => exact plainWait_outcome (i := .pRespLow) (by decide) h
  | respHigh => exact plainWait_outcome (i := .pRespHigh) (by decide) h
  | bitLow => exact plainWait_outcome (i := .pBitLow) (by decide) h
  | bitDelay => exact bitDelay_outcome h
  | bitHigh => exact bitHigh_outcome h
  | validate => exact validate_outcome h
  | hostDelay => exact hostDelay_outcome h

/-- A format P word that runs is a phase's own code, and its block is run. -/
theorem phaseOutcome_of_runWord {c : BitVec 4} {s t : State} (h : runWord (.p c) s = .next t) :
    ∃ p : Phase, c = p.code ∧ PhaseOutcome s p t := by
  cases hc : Phase.ofCode c with
  | none => simp [runWord, decode, decodePhase, hc, rejectWord] at h
  | some p =>
    obtain rfl := Phase.code_of_ofCode hc
    exact ⟨p, rfl, phaseOutcome_of_exec (runWord_phase p s ▸ h)⟩

/-! ## The host's turn and the tick -/

/-- What the host's turn can do (R61, R63): go on, with a read or no access or a write that reaches no register; issue a
command word; or write `ARG`. -/
inductive HostOutcome (s : State) : State → Prop
  | quiet (d : Option Word) (host : List HostStmt) :
      HostOutcome s { s with hrdata := d, hostProg := host, stage := .afterHost }
  | issued (v : Word) (d : Option Word) (host : List HostStmt) :
      HostOutcome s { s with issue := some (.h v), hrdata := d, hostProg := host, stage := .afterHost }
  | argWritten (v : Word) (d : Option Word) (host : List HostStmt) (ha : hostAccess s.hostProg = some (.write 1 v)) :
      HostOutcome s { s with arg := v, hrdata := d, hostProg := host, stage := .afterHost }

theorem hostTurn_outcome {s : State} (hr : s.inReset = false) : HostOutcome s (hostTurn s) := by
  unfold hostTurn
  cases ha : hostAccess s.hostProg with
  | none => exact .quiet _ _
  | some access =>
    cases access with
    | read idx => exact .quiet _ _
    | write idx v =>
      simp only [portWrite, hr, Bool.false_eq_true, if_false]
      unfold writeRegister
      split
      · exact .issued v _ _
      · rename_i hidx
        obtain rfl : idx = 1 := BitVec.eq_of_toNat_eq hidx
        exact .argWritten v _ _ ha
      · exact .quiet _ _

/-- In reset the host's turn reaches no register (R280). -/
theorem hostTurn_inReset {s : State} (hr : s.inReset = true) :
    ∃ d host, hostTurn s = { s with hrdata := d, hostProg := host, stage := .afterHost } := by
  unfold hostTurn
  cases ha : hostAccess s.hostProg with
  | none => exact ⟨_, _, rfl⟩
  | some access =>
    cases access with
    | read idx => exact ⟨_, _, rfl⟩
    | write idx v =>
      simp only [portWrite, hr, if_true]
      exact ⟨_, _, rfl⟩

@[simp] theorem inReset_resetRegisters (s : State) : (resetRegisters s).inReset = s.inReset := rfl

/-! ## The step -/

/-- What a step can do (R13, R280). -/
inductive StepOutcome (s : State) : State → Prop
  | inReset (hr : s.inReset = true) (sensor : Wave Level) (rst : Wave Bool) (host : List HostStmt)
      (d : Option Word) (stage : Stage) :
      StepOutcome s
        { resetRegisters s with sensor := sensor, rst := rst, hostProg := host, hrdata := d, stage := stage }
  | command {w : BitVec 32} {t : State} (hf : s.fetch = some (.h w)) (ho : CommandOutcome { s with issue := none } w t) :
      StepOutcome s t
  | line {w : BitVec 9} {t : State} (hf : s.fetch = some (.m w)) (ho : LineOutcome { s with issue := none } t) :
      StepOutcome s t
  | phase {p : Phase} {t : State} (hf : s.fetch = some (.p p.code)) (ho : PhaseOutcome { s with issue := none } p t) :
      StepOutcome s t
  | host {t : State} (hf : s.fetch = none) (hs : s.stage = .beforeHost) (ho : HostOutcome s t) : StepOutcome s t
  | ticked (hr : s.inReset = false) (hf : s.fetch = none) (hs : s.stage = .afterHost) : StepOutcome s (tick s)

theorem advance_outcome {s : State} (hf : s.fetch = none) : StepOutcome s (advance s) := by
  cases hr : s.inReset with
  | true =>
    unfold advance
    simp only [hr, if_true]
    split
    · obtain ⟨d, host, heq⟩ := hostTurn_inReset (s := resetRegisters s) hr
      rw [heq]
      exact .inReset hr s.sensor s.rst host d .afterHost
    · have htick : tick (resetRegisters s) = { resetRegisters s with
          sensor := Wave.later s.sensor, rst := Wave.later s.rst, hrdata := none, stage := .beforeHost } := by
        simp [tick, hr]
      rw [htick]
      exact .inReset hr (Wave.later s.sensor) (Wave.later s.rst) s.hostProg none .beforeHost
  | false =>
    cases hs : s.stage with
    | beforeHost =>
      rw [advance_beforeHost hr hs]
      exact .host hf hs (hostTurn_outcome hr)
    | afterHost =>
      rw [advance_afterHost hr hs]
      exact .ticked hr hf hs

/-- Every step has one of these outcomes. -/
theorem stepOutcome_of_step {s t : State} (h : step s = .next t) : StepOutcome s t := by
  cases hf : s.fetch with
  | none =>
    rw [step_of_no_fetch hf] at h
    cases h
    exact advance_outcome hf
  | some word =>
    rw [step_of_fetch hf] at h
    cases word with
    | h w => exact .command hf (commandOutcome_of_runWord h)
    | m w => exact .line hf (lineOutcome_of_runWord h)
    | p c =>
      obtain ⟨p, rfl, ho⟩ := phaseOutcome_of_runWord h
      exact .phase hf ho

end Sys2Proof.Machine
end

section
/-! The machine's invariant (10_state.md, R41), as a table: what every state keeps of its registers, what each phase says
of the line, the flags and `BITIDX`, and what a block under way adds. Every outcome of a step keeps the table. -/

namespace Sys2Proof.Machine

/-! ## The table -/

/-- The clauses of `MachineInv` that do not speak of `PHASE`. -/
structure RegisterInv (s : State) : Prop where
  clock : s.cnt = BitVec.ofNat 32 s.time
  frame : s.fb.wf = true
  success : s.okFlag = true →
    s.doneFlag = true ∧ s.err = .noError ∧ s.reading.pi.toNat ≤ s.params.primaryMax ∧
      s.reading.si.toNat ≤ s.params.secondaryMax
  failure : s.doneFlag = true → s.okFlag = false → s.err ≠ .noError
  bitBound : s.bitidx.toNat ≤ 40
  polls : s.nReg.toNat ≤ s.params.timeoutUs
  pollsFit : s.params.timeoutUs < 128
  issued : ∀ c, s.issue = some c → ∃ w, c = .h w

/-- No result is out yet (R41 (6)). -/
def State.resultPending (s : State) : Prop :=
  s.initFlag = true ∧ s.doneFlag = false ∧ s.okFlag = false ∧ s.err = .noError

/-- The clauses of `MachineInv` that hold throughout the block of a phase. -/
def BlockInv (s : State) : Phase → Prop
  | .idle | .hostDelay => s.owned = false ∧ s.mode = .input
  | .startLow => s.resultPending ∧ (s.owned = true ∧ s.mode = .output ∧ s.out = .low) ∧ s.bitidx = 0
  | .startHigh => s.resultPending ∧ (s.owned = true ∧ s.mode = .output) ∧ s.bitidx = 0
  | .respWait | .respLow | .respHigh => s.resultPending ∧ (s.owned = true ∧ s.mode = .input) ∧ s.bitidx = 0
  | .bitLow | .bitDelay | .bitHigh =>
    s.resultPending ∧ (s.owned = true ∧ s.mode = .input) ∧ s.bitidx.toNat < 40
  | .validate => s.resultPending ∧ (s.owned = true ∧ s.mode = .input) ∧ s.bitidx.toNat = 40

/-- The clauses of `MachineInv` about a block that has been begun. -/
structure BegunInv (s : State) : Prop where
  drivesHigh : s.phase = .startHigh → s.begun = true → s.out = .high
  pollLeft : s.phase ∈ guardedPhases → s.begun = true → s.nReg.toNat < s.params.timeoutUs
  takesNoTime : s.phase = .validate → s.begun = false

theorem MachineInv.registerInv {s : State} (h : MachineInv s) : RegisterInv s :=
  { h with }

theorem MachineInv.blockInv {s : State} (h : MachineInv s) : BlockInv s s.phase := by
  have hpending : s.phase ≠ .idle → s.phase ≠ .hostDelay → s.resultPending := fun hi hd => h.pending ⟨hi, hd⟩
  cases hp : s.phase <;> rw [hp] at hpending
  case idle => exact h.atRest (.inl hp)
  case hostDelay => exact h.atRest (.inr hp)
  case startLow => exact ⟨hpending (by decide) (by decide), h.drivenLow hp, h.noBitYet (by rw [hp]; decide)⟩
  case startHigh =>
    obtain ⟨howned, hmode, -⟩ := h.drivenHigh hp
    exact ⟨hpending (by decide) (by decide), ⟨howned, hmode⟩, h.noBitYet (by rw [hp]; decide)⟩
  case respWait | respLow | respHigh =>
    exact ⟨hpending (by decide) (by decide), h.released (by rw [hp]; decide), h.noBitYet (by rw [hp]; decide)⟩
  case bitLow | bitDelay | bitHigh =>
    exact ⟨hpending (by decide) (by decide), h.released (by rw [hp]; decide), h.bitOpen (by rw [hp]; decide)⟩
  case validate => exact ⟨hpending (by decide) (by decide), h.released (by rw [hp]; decide), (h.allBits hp).1⟩

theorem MachineInv.begunInv {s : State} (h : MachineInv s) : BegunInv s where
  drivesHigh hp := (h.drivenHigh hp).2.2
  pollLeft := h.pollLeft
  takesNoTime hp := (h.allBits hp).2

/-! Reading the clauses off the table. -/

theorem BlockInv.atRest {s : State} {p : Phase} (h : BlockInv s p) (hp : p = .idle ∨ p = .hostDelay) :
    s.owned = false ∧ s.mode = .input := by
  rcases hp with rfl | rfl <;> exact h

theorem BlockInv.released {s : State} {p : Phase} (h : BlockInv s p) (hp : p ∈ releasedPhases) :
    s.owned = true ∧ s.mode = .input := by
  cases p with
  | idle | startLow | startHigh | hostDelay => simp [releasedPhases] at hp
  | respWait | respLow | respHigh | bitLow | bitDelay | bitHigh | validate => exact h.2.1

theorem BlockInv.noBitYet {s : State} {p : Phase} (h : BlockInv s p) (hp : p ∈ handshakePhases) : s.bitidx = 0 := by
  cases p with
  | startLow | startHigh | respWait | respLow | respHigh => exact h.2.2
  | idle | bitLow | bitDelay | bitHigh | validate | hostDelay => simp [handshakePhases] at hp

theorem BlockInv.bitOpen {s : State} {p : Phase} (h : BlockInv s p) (hp : p ∈ bitPhases) : s.bitidx.toNat < 40 := by
  cases p with
  | bitLow | bitDelay | bitHigh => exact h.2.2
  | idle | startLow | startHigh | respWait | respLow | respHigh | validate | hostDelay => simp [bitPhases] at hp

theorem BlockInv.pending {s : State} {p : Phase} (h : BlockInv s p) (hi : p ≠ .idle) (hd : p ≠ .hostDelay) :
    s.resultPending := by
  cases p with
  | idle => exact absurd rfl hi
  | hostDelay => exact absurd rfl hd
  | startLow | startHigh | respWait | respLow | respHigh | bitLow | bitDelay | bitHigh | validate => exact h.1

/-- The table says all that the invariant says. -/
theorem machineInv_of_table {s : State} (hreg : RegisterInv s) (hblock : BlockInv s s.phase) (hbegun : BegunInv s) :
    MachineInv s :=
  { hreg with
    atRest := hblock.atRest
    drivenLow := fun hp => by
      rw [hp] at hblock
      exact hblock.2.1
    drivenHigh := fun hp => by
      have hhigh := hbegun.drivesHigh hp
      rw [hp] at hblock
      exact ⟨hblock.2.1.1, hblock.2.1.2, hhigh⟩
    released := hblock.released
    noBitYet := hblock.noBitYet
    bitOpen := hblock.bitOpen
    allBits := fun hp => by
      have hbegin := hbegun.takesNoTime hp
      rw [hp] at hblock
      exact ⟨hblock.2.2, hbegin⟩
    pending := fun htx => hblock.pending htx.1 htx.2
    pollLeft := hbegun.pollLeft }

/-- A block not yet begun has no clauses of its own. -/
theorem BegunInv.of_not_begun {s : State} (h : s.begun = false) : BegunInv s where
  drivesHigh _ hb := by simp [h] at hb
  pollLeft _ hb := by simp [h] at hb
  takesNoTime _ := h

/-- The blocks whose beginning adds nothing to the table. -/
theorem BegunInv.of_plain_hold {s : State} (h : s.phase ∈ [Phase.idle, .startLow, .bitDelay, .hostDelay]) :
    BegunInv s where
  drivesHigh hp _ := by simp [hp] at h
  pollLeft hp _ := by
    have hdisjoint : ∀ p ∈ [Phase.idle, .startLow, .bitDelay, .hostDelay], p ∉ guardedPhases := by decide
    exact absurd hp (hdisjoint _ h)
  takesNoTime hp := by simp [hp] at h

/-- A row of the table does not speak of `PHASE`, `S`, `N`, or the model's own place in the block. -/
theorem BlockInv.of_wait {s : State} {p : Phase} (h : BlockInv s p) (q : Phase) (begun : Bool) (sr : Word)
    (nr : BitVec 7) (sample : Level) :
    BlockInv { s with phase := q, begun := begun, sReg := sr, nReg := nr, sample := sample } p := by
  cases p <;> exact h

/-- Control may pass to the block of `p` where its row of the table holds. -/
theorem machineInv_gotoPhase {s : State} {p : Phase} (hreg : RegisterInv s) (hblock : BlockInv s p) :
    MachineInv (gotoPhase p s) :=
  machineInv_of_table { hreg with } (hblock.of_wait p false s.sReg s.nReg s.sample) (.of_not_begun rfl)

/-! ## Ends of a transaction -/

/-- A failure of any kind ends a block with its registers sound (R247). -/
theorem RegisterInv.failureExit {s : State} {e : ErrorKind} (h : RegisterInv s) (he : e ≠ .noError) :
    MachineInv (failureExit e s) :=
  machineInv_gotoPhase { h with success := fun hok => Bool.noConfusion hok, failure := fun _ _ => he } ⟨rfl, rfl⟩

theorem State.outOfRange_eq_false {s : State} : s.outOfRange = false ↔
    (s.frameByte 0).toNat ≤ s.params.primaryMax ∧ (s.frameByte 2).toNat ≤ s.params.secondaryMax := by
  simp [State.outOfRange]

/-- A frame in range ends in success (R184). -/
theorem RegisterInv.successExit {s : State} (h : RegisterInv s) (hr : s.outOfRange = false) :
    MachineInv (successExit s) := by
  obtain ⟨hprimary, hsecondary⟩ := State.outOfRange_eq_false.mp hr
  exact machineInv_gotoPhase
    { h with success := fun _ => ⟨rfl, rfl, hprimary, hsecondary⟩, failure := fun _ hok => Bool.noConfusion hok }
    ⟨rfl, rfl⟩

/-! ## The states in which a block waits -/

theorem State.inside_iff {s : State} {p : Phase} : s.inside p = true ↔ s.begun = true ∧ s.phase = p := by
  simp [State.inside]

section HoldState
variable {p : Phase} {s x : State}

theorem HoldState.phase_eq (hx : HoldState p s x) : x.phase = p := by
  cases hx with
  | inside hi => exact (State.inside_iff.mp hi).2
  | begins => rfl

theorem HoldState.registerInv (hx : HoldState p s x) (h : RegisterInv s) : RegisterInv x := by
  cases hx with
  | inside hi => exact h
  | begins => exact { h with }

theorem HoldState.blockInv {q : Phase} (hx : HoldState p s x) (h : BlockInv s q) : BlockInv x q := by
  cases hx with
  | inside hi => exact h
  | begins => exact h.of_wait p true s.cnt s.nReg s.sample

/-- A hold that goes on keeps the invariant. -/
theorem HoldState.machineInv (hx : HoldState p s x) (hreg : RegisterInv s) (hblock : BlockInv s p)
    (hp : p ∈ [Phase.idle, .startLow, .bitDelay, .hostDelay]) : MachineInv x :=
  machineInv_of_table (hx.registerInv hreg) (hx.phase_eq ▸ hx.blockInv hblock)
    (.of_plain_hold (hx.phase_eq ▸ hp))

end HoldState

theorem HighHoldState.phase_eq {s x : State} (hx : HighHoldState s x) : x.phase = .startHigh := by
  cases hx with
  | inside hi => exact (State.inside_iff.mp hi).2
  | begins => rfl

section SampleState
variable {p : Phase} {s x : State}

theorem SampleState.phase_eq (hx : SampleState p s x) : x.phase = p := by
  cases hx with
  | counted hi => exact (State.inside_iff.mp hi).2
  | first => rfl

/-- `N` stays within `T_TIMEOUT_US`, since a wait under way has a poll delay left (R171). -/
theorem SampleState.registerInv (hx : SampleState p s x) (h : RegisterInv s) (hbegun : BegunInv s)
    (hp : p ∈ guardedPhases) : RegisterInv x := by
  cases hx with
  | counted hi =>
    obtain ⟨hb, rfl⟩ := State.inside_iff.mp hi
    have hleft := hbegun.pollLeft hp hb
    have hfit := h.pollsFit
    have hcount : (s.nReg + 1).toNat = s.nReg.toNat + 1 := by
      rw [BitVec.toNat_add]
      exact Nat.mod_eq_of_lt (by simp; omega)
    exact { h with polls := show (s.nReg + 1).toNat ≤ s.params.timeoutUs by omega }
  | first => exact { h with polls := Nat.zero_le _ }

theorem SampleState.blockInv {q : Phase} (hx : SampleState p s x) (h : BlockInv s q) : BlockInv x q := by
  cases hx with
  | counted hi => exact h.of_wait s.phase s.begun s.sReg (s.nReg + 1) s.sensorLevel
  | first => exact h.of_wait p true s.cnt 0 s.sensorLevel

/-- A guarded wait that goes on has a poll delay left. -/
theorem SampleState.machineInv (hx : SampleState p s x) (hreg : RegisterInv x) (hblock : BlockInv s p)
    (hp : p ∈ guardedPhases) (hn : x.nReg.toNat ≠ x.params.timeoutUs) : MachineInv x := by
  have hphase := hx.phase_eq
  refine machineInv_of_table hreg (hphase ▸ hx.blockInv hblock) ⟨fun hq => ?_, fun _ _ => ?_, fun hq => ?_⟩
  · rw [← hphase, hq] at hp
    exact absurd hp (by decide)
  · exact Nat.lt_of_le_of_ne hreg.polls hn
  · rw [← hphase, hq] at hp
    exact absurd hp (by decide)

end SampleState

/-- Along a plain wait's row the table asks no more of the next block. -/
theorem BlockInv.waitPassed {i : Instr} {p q : Phase} {l : Level} {e : ErrorKind} {s : State}
    (hrow : (i, p, l, e, q) ∈ plainWaits) (h : BlockInv s p) : BlockInv s q := by
  simp only [plainWaits, List.mem_cons, Prod.mk.injEq, List.not_mem_nil, or_false] at hrow
  rcases hrow with ⟨-, rfl, -, -, rfl⟩ | ⟨-, rfl, -, -, rfl⟩ | ⟨-, rfl, -, -, rfl⟩ | ⟨-, rfl, -, -, rfl⟩
  · exact h
  · exact h
  · obtain ⟨hpending, hline, hbit⟩ := h
    exact ⟨hpending, hline, by simp [hbit]⟩
  · exact h

theorem guarded_of_plainWait {i : Instr} {p q : Phase} {l : Level} {e : ErrorKind}
    (hrow : (i, p, l, e, q) ∈ plainWaits) : p ∈ guardedPhases := by
  simp only [plainWaits, List.mem_cons, Prod.mk.injEq, List.not_mem_nil, or_false] at hrow
  rcases hrow with ⟨-, rfl, -⟩ | ⟨-, rfl, -⟩ | ⟨-, rfl, -⟩ | ⟨-, rfl, -⟩ <;> decide

/-- The trailing wait of a bit counts the bit, and hands on to the next bit or, after the 40th, to `P.VALIDATE` (R181). -/
theorem machineInv_bitCompleted {x : State} (hreg : RegisterInv x) (hblock : BlockInv x .bitHigh) :
    MachineInv (gotoPhase (if (completeBit x).bitidx.toNat < 40 then .bitLow else .validate) (completeBit x)) := by
  obtain ⟨hpending, hline, hopen⟩ := hblock
  have hcount : (completeBit x).bitidx.toNat = x.bitidx.toNat + 1 := by
    rw [completeBit_bitidx, BitVec.toNat_add]
    exact Nat.mod_eq_of_lt (by simp; omega)
  have hreg' : RegisterInv (completeBit x) := { hreg with bitBound := by omega }
  split
  · exact machineInv_gotoPhase hreg' ⟨hpending, hline, ‹_›⟩
  · exact machineInv_gotoPhase hreg' ⟨hpending, hline, by omega⟩

/-! ## Every outcome keeps the invariant -/

theorem PhaseOutcome.keeps_machineInv {s t : State} {p : Phase} (ho : PhaseOutcome s p t) (h : MachineInv s)
    (hp : s.phase = p) : MachineInv t := by
  have hreg := h.registerInv
  have hbegun := h.begunInv
  have hblock : BlockInv s p := hp ▸ h.blockInv
  cases ho with
  | notDue hi => exact h
  | idles => exact machineInv_of_table { hreg with } hblock (.of_plain_hold (by simp))
  | lowHeld hx => exact hx.machineInv hreg hblock (by decide)
  | lowEnded hx =>
    obtain ⟨hpending, ⟨howned, hmode, -⟩, hbit⟩ := hx.blockInv hblock
    exact machineInv_gotoPhase (hx.registerInv hreg) ⟨hpending, ⟨howned, hmode⟩, hbit⟩
  | highHeld hx =>
    cases hx with
    | inside hi => exact h
    | begins hm =>
      exact machineInv_of_table { hreg with } hblock
        ⟨fun _ _ => rfl, fun hq => absurd hq (by simp [guardedPhases]), fun hq => Phase.noConfusion hq⟩
  | highEnded hx =>
    obtain ⟨hpending, ⟨howned, -⟩, hbit⟩ := hblock
    cases hx with
    | inside hi => exact machineInv_gotoPhase { hreg with } ⟨hpending, ⟨howned, rfl⟩, hbit⟩
    | begins hm => exact machineInv_gotoPhase { hreg with } ⟨hpending, ⟨howned, rfl⟩, hbit⟩
  | waitGoesOn hg hx hn => exact hx.machineInv (hx.registerInv hreg hbegun hg) hblock hg hn
  | waitFailed hg he hx => exact (hx.registerInv hreg hbegun hg).failureExit he
  | waitPassed hrow hx =>
    exact machineInv_gotoPhase (hx.registerInv hreg hbegun (guarded_of_plainWait hrow))
      ((hx.blockInv hblock).waitPassed hrow)
  | bitHeld hx => exact hx.machineInv hreg hblock (by decide)
  | bitStored hx ha =>
    have hregx := hx.registerInv hreg
    exact machineInv_gotoPhase { hregx with frame := Memory.wf_write hregx.frame ha } (hx.blockInv hblock)
  | bitCompleted hx => exact machineInv_bitCompleted (hx.registerInv hreg hbegun (by decide)) (hx.blockInv hblock)
  | frameRejected he => exact RegisterInv.failureExit { hreg with } he
  | frameDelivered hr => exact RegisterInv.successExit { hreg with } hr
  | delayHeld => exact machineInv_of_table { hreg with } hblock (.of_plain_hold (by simp))
  | delayEnded => exact machineInv_gotoPhase { hreg with } hblock

theorem CommandOutcome.keeps_machineInv {s t : State} {w : BitVec 32} (ho : CommandOutcome s w t) (h : MachineInv s) :
    MachineInv t := by
  cases ho with
  | refused => exact { h with }
  | initialized hp => exact { h with pending := fun htx => absurd hp htx.1 }
  | readStarted hp hi =>
    have hreg : RegisterInv
        { s with
          cmderrFlag := false, doneFlag := false, okFlag := false, err := .noError, fb := [], bitidx := 0
          owned := true, mode := .output, out := .low } :=
      { h with
        frame := rfl
        success := fun hok => Bool.noConfusion hok
        failure := fun hdone => Bool.noConfusion hdone
        bitBound := Nat.zero_le _ }
    exact machineInv_gotoPhase (p := .startLow) hreg ⟨⟨hi, rfl, rfl, rfl⟩, ⟨rfl, rfl, rfl⟩, rfl⟩
  | timerStarted => exact { h with }
  | elapsedRead => exact { h with }
  | delayStarted hp => exact machineInv_gotoPhase { h.registerInv with } (h.atRest (.inl hp))

theorem HostOutcome.keeps_machineInv {s t : State} (ho : HostOutcome s t) (h : MachineInv s) : MachineInv t := by
  cases ho with
  | quiet => exact { h with }
  | issued v =>
    exact { h with
      issued := fun c hc => by
        cases hc
        exact ⟨v, rfl⟩ }
  | argWritten => exact { h with }

theorem tick_keeps_machineInv {s : State} (h : MachineInv s) (hr : s.inReset = false) : MachineInv (tick s) := by
  rw [tick_outsideReset hr]
  exact { h with clock := by simp [h.clock, BitVec.ofNat_add] }

/-- In reset the registers have their reset values, whose table row is that of `Idle` (R280). -/
theorem machineInv_inReset (s : State) (hfit : s.params.timeoutUs < 128) (sensor : Wave Level) (rst : Wave Bool)
    (host : List HostStmt) (d : Option Word) (stage : Stage) :
    MachineInv { resetRegisters s with sensor := sensor, rst := rst, hostProg := host, hrdata := d, stage := stage } :=
  machineInv_of_table
    { clock := rfl
      frame := rfl
      success := fun hok => Bool.noConfusion hok
      failure := fun hdone => Bool.noConfusion hdone
      bitBound := Nat.zero_le _
      polls := Nat.zero_le _
      pollsFit := hfit
      issued := fun _ hc => by cases hc }
    ⟨rfl, rfl⟩ (.of_not_begun rfl)

/-- No step of an invariant state runs a format M word, and none a format P word but that of `PHASE` (R155). -/
theorem MachineInv.fetch_cases {s : State} {c : CodeWord} (h : MachineInv s) (hf : s.fetch = some c) :
    (∃ w, c = .h w) ∨ c = .p s.phase.code := by
  obtain ⟨-, hi | ⟨-, -, rfl⟩⟩ := fetch_some hf
  · exact .inl (h.issued c hi)
  · exact .inr rfl

theorem MachineInv.fetch_phase {s : State} {p : Phase} (h : MachineInv s) (hf : s.fetch = some (.p p.code)) :
    s.phase = p := by
  rcases h.fetch_cases hf with ⟨w, hw⟩ | hp
  · cases hw
  · injection hp with hcode
    exact (Phase.code_inj hcode).symm

theorem MachineInv.clearIssue {s : State} (h : MachineInv s) : MachineInv { s with issue := none } :=
  { h with issued := fun _ hc => by cases hc }

/-- Settles O46: every outcome of a step keeps the invariant. -/
theorem stepKeepsMachineInv : Obligations.StepKeepsMachineInv := by
  unfold Obligations.StepKeepsMachineInv
  intro s t h hstep
  cases stepOutcome_of_step hstep with
  | inReset hr sensor rst host d stage => exact machineInv_inReset s h.pollsFit sensor rst host d stage
  | command hf ho => exact ho.keeps_machineInv h.clearIssue
  | line hf ho =>
    rcases h.fetch_cases hf with ⟨w, hw⟩ | hp
    · cases hw
    · cases hp
  | phase hf ho => exact ho.keeps_machineInv h.clearIssue (h.fetch_phase hf)
  | host hf hs ho => exact ho.keeps_machineInv h
  | ticked hr hf hs => exact tick_keeps_machineInv h hr

/-! ## Reachable states -/

/-- Settles O45: a boot state is a reset state in its environment. -/
theorem bootStateHasMachineInv : Obligations.BootStateHasMachineInv := by
  unfold Obligations.BootStateHasMachineInv
  intro p sensor rst host hfit
  exact machineInv_inReset (bootState p sensor rst host) (of_decide_eq_true hfit) sensor rst host none .beforeHost

theorem Params.timeoutLegal_of_legal {p : Params} (h : p.legal = true) : p.timeoutLegal = true := by
  simp only [Params.legal, Bool.and_eq_true] at h
  exact h.1.2

/-- The invariant holds of every reachable state: at boot, and after every step. -/
theorem Reachable.machineInv {s : State} (h : Reachable s) : MachineInv s := by
  induction h with
  | boot p sensor rst host hp =>
    exact bootStateHasMachineInv p sensor rst host (Params.timeoutLegal_of_legal hp)
  | step s t _ hstep ih => exact stepKeepsMachineInv s t ih hstep

/-- Waiting for an instant, the sequencer stands inside a block that has been begun. -/
theorem State.begun_of_quiescent {s : State} (h : s.quiescent = true) : s.begun = true := by
  obtain ⟨-, he⟩ := State.quiescent_iff.mp h
  simp only [State.enabled, Bool.or_eq_false_iff, Bool.not_eq_false'] at he
  exact he.1

theorem ErrorKind.code_of_ne_noError {e : ErrorKind} (h : e ≠ .noError) : 1 ≤ e.code.toNat ∧ e.code.toNat ≤ 5 := by
  cases e with
  | noError => exact absurd rfl h
  | noResponse | responseTimeout | bitTimeout | checksumError | rangeError => decide

/-- During a transaction `BITIDX` stands below 40 until `P.VALIDATE` (R41 (3)). -/
theorem BlockInv.validate_of_allBits {s : State} {p : Phase} (h : BlockInv s p) (hi : p ≠ .idle) (hd : p ≠ .hostDelay)
    (hbits : s.bitidx.toNat = 40) : p = .validate := by
  cases p with
  | idle => exact absurd rfl hi
  | hostDelay => exact absurd rfl hd
  | startLow | startHigh | respWait | respLow | respHigh =>
    have hbit := h.2.2
    simp [hbit] at hbits
  | bitLow | bitDelay | bitHigh =>
    have hopen := h.2.2
    omega
  | validate => rfl

/-- At quiescence the invariant is R41's, with the document's constants. -/
theorem MachineInv.quiescentInv {s : State} (h : MachineInv s) (hdoc : s.params.documented = true)
    (hq : s.quiescent = true) : QuiescentInv s := by
  have hbegun := State.begun_of_quiescent hq
  obtain ⟨⟨⟨⟨htimeout, -⟩, -⟩, hprimary⟩, hsecondary⟩ :
      (((s.params.timeoutUs = 100 ∧ s.params.pollUs = 1) ∧ s.params.bitSampleUs = 40) ∧ s.params.primaryMax = 100) ∧
        s.params.secondaryMax = 85 := by
    simpa [Params.documented] using hdoc
  exact
    { atRest := h.atRest
      drivenLow := fun hp => by
        obtain ⟨howned, hmode, hout⟩ := h.drivenLow hp
        simp [State.lstate, howned, hmode, hout]
      drivenHigh := fun hp => by
        obtain ⟨howned, hmode, hout⟩ := h.drivenHigh hp
        simp [State.lstate, howned, hmode, hout hbegun]
      released := fun hp => by
        obtain ⟨howned, hmode⟩ := h.released (List.mem_append_left [Phase.validate] hp)
        simp [State.lstate, howned, hmode]
      bitBound := h.bitBound
      allBits := fun htx => h.blockInv.validate_of_allBits htx.1 htx.2
      success := fun hok => by
        obtain ⟨hdone, herr, hpi, hsi⟩ := h.success hok
        exact ⟨hdone, herr, hprimary ▸ hpi, hsecondary ▸ hsi⟩
      failure := fun hdone hok => ErrorKind.code_of_ne_noError (h.failure hdone hok)
      pending := h.pending
      polls := htimeout ▸ h.polls
      notValidate := fun hp => by simp [(h.allBits hp).2] at hbegun }

/-- Settles O48: a reachable state has the invariant, and the invariant gives R41 at quiescence. -/
theorem reachableQuiescentStatesAreSound : Obligations.ReachableQuiescentStatesAreSound := by
  unfold Obligations.ReachableQuiescentStatesAreSound
  intro s hs hdoc hq
  exact hs.machineInv.quiescentInv hdoc hq

end Sys2Proof.Machine
end

section
/-! Who writes what (10_state.md, R20 to R29): the registers a phase leaves alone, and the owners of `CNT`, `ARG`,
`HANDLE`, `INIT`, `RESULT`, `READING` and `PHASE`, each read off the outcomes of a step. -/

namespace Sys2Proof.Machine

/-! ## What the block of a phase leaves alone -/

/-- `t` has the counter, the host's registers and the parameters of `s`. -/
structure HostSideKept (s t : State) : Prop where
  cnt : t.cnt = s.cnt
  arg : t.arg = s.arg
  handle : t.handle = s.handle
  initFlag : t.initFlag = s.initFlag
  result : t.result = s.result
  params : t.params = s.params

theorem HostSideKept.refl (s : State) : HostSideKept s s := ⟨rfl, rfl, rfl, rfl, rfl, rfl⟩

theorem HoldState.hostSideKept {p : Phase} {s x : State} (hx : HoldState p s x) : HostSideKept s x := by
  cases hx <;> exact { HostSideKept.refl s with }

theorem HighHoldState.hostSideKept {s x : State} (hx : HighHoldState s x) : HostSideKept s x := by
  cases hx <;> exact { HostSideKept.refl s with }

theorem SampleState.hostSideKept {p : Phase} {s x : State} (hx : SampleState p s x) : HostSideKept s x := by
  cases hx <;> exact { HostSideKept.refl s with }

/-- No block writes the counter, a register of the host, or a parameter. -/
theorem PhaseOutcome.hostSideKept {p : Phase} {s t : State} (ho : PhaseOutcome s p t) : HostSideKept s t := by
  cases ho with
  | lowHeld hx | lowEnded hx | bitHeld hx | bitStored hx => exact { hx.hostSideKept with }
  | highHeld hx | highEnded hx => exact { hx.hostSideKept with }
  | waitGoesOn _ hx | waitFailed _ _ hx | waitPassed _ hx | bitCompleted hx => exact { hx.hostSideKept with }
  | notDue | idles | frameRejected | frameDelivered | delayHeld | delayEnded => exact { HostSideKept.refl s with }

theorem HoldState.reading_eq {p : Phase} {s x : State} (hx : HoldState p s x) : x.reading = s.reading := by
  cases hx <;> rfl

theorem HighHoldState.reading_eq {s x : State} (hx : HighHoldState s x) : x.reading = s.reading := by
  cases hx <;> rfl

theorem SampleState.reading_eq {p : Phase} {s x : State} (hx : SampleState p s x) : x.reading = s.reading := by
  cases hx <;> rfl

/-- `READING` is written by the success completion of `P.VALIDATE` alone (R184). -/
theorem PhaseOutcome.success_of_reading_ne {p : Phase} {s t : State} (ho : PhaseOutcome s p t)
    (hne : t.reading ≠ s.reading) :
    p = .validate ∧ s.outOfRange = false ∧ t = successExit (gotoPhase .validate s) := by
  cases ho with
  | frameDelivered hr => exact ⟨rfl, hr, rfl⟩
  | lowHeld hx | lowEnded hx | bitHeld hx | bitStored hx => exact absurd hx.reading_eq hne
  | highHeld hx | highEnded hx => exact absurd hx.reading_eq hne
  | waitGoesOn _ hx | waitFailed _ _ hx | waitPassed _ hx | bitCompleted hx => exact absurd hx.reading_eq hne
  | notDue | idles | frameRejected | delayHeld | delayEnded => exact absurd rfl hne

theorem plainWait_edge {i : Instr} {p q : Phase} {l : Level} {e : ErrorKind} (hrow : (i, p, l, e, q) ∈ plainWaits) :
    (p, q) ∈ phaseEdges := by
  simp only [plainWaits, List.mem_cons, Prod.mk.injEq, List.not_mem_nil, or_false] at hrow
  rcases hrow with ⟨-, rfl, -, -, rfl⟩ | ⟨-, rfl, -, -, rfl⟩ | ⟨-, rfl, -, -, rfl⟩ | ⟨-, rfl, -, -, rfl⟩ <;> decide

/-- Every guarded wait has its failure exit (R185). -/
theorem guarded_failure_edge {p : Phase} (hp : p ∈ guardedPhases) : (p, .idle) ∈ phaseEdges := by
  revert p
  decide

/-- The block of a phase stays in it or leaves along an edge of R170. -/
theorem PhaseOutcome.stays_or_edge {p : Phase} {s t : State} (ho : PhaseOutcome s p t) :
    t.phase = p ∨ (p, t.phase) ∈ phaseEdges := by
  cases ho with
  | notDue hi => exact .inl (State.inside_iff.mp hi).2
  | idles | delayHeld => exact .inl rfl
  | lowHeld hx | bitHeld hx => exact .inl hx.phase_eq
  | highHeld hx => exact .inl hx.phase_eq
  | waitGoesOn _ hx => exact .inl hx.phase_eq
  | lowEnded | highEnded | bitStored | frameRejected | frameDelivered | delayEnded => exact .inr (by simp [phaseEdges])
  | waitFailed hg => exact .inr (guarded_failure_edge hg)
  | waitPassed hrow => exact .inr (plainWait_edge hrow)
  | bitCompleted hx =>
    right
    rw [gotoPhase_phase]
    split <;> decide

/-! ## The owners -/

theorem State.quiescent_of_fetch_none {s : State} (hr : s.inReset = false) (hf : s.fetch = none) :
    s.quiescent = true := by
  rw [State.quiescent_iff]
  cases hi : s.issue with
  | some w => rw [State.fetch_of_issue hr hi] at hf; cases hf
  | none =>
    cases he : s.enabled with
    | true => rw [State.fetch_of_enabled hr hi he] at hf; cases hf
    | false => exact ⟨rfl, rfl⟩

/-- Settles O7: of the outcomes of a step, only the tick and reset write `CNT`. -/
theorem counterWrittenOnlyByTickOrReset : Obligations.CounterWrittenOnlyByTickOrReset := by
  unfold Obligations.CounterWrittenOnlyByTickOrReset
  intro s t hstep hne
  cases stepOutcome_of_step hstep with
  | inReset hr => exact .inl ⟨hr, rfl⟩
  | command hf ho => cases ho <;> exact absurd rfl hne
  | line hf ho => cases ho <;> exact absurd rfl hne
  | phase hf ho => exact absurd ho.hostSideKept.cnt hne
  | host hf hs ho => cases ho <;> exact absurd rfl hne
  | ticked hr hf hs => exact .inr ⟨hr, State.quiescent_of_fetch_none hr hf, hs, by simp [hr]⟩

section Owners
variable {s t : State}

theorem StepOutcome.arg_owner (ho : StepOutcome s t) (hr : s.inReset = false) (hne : t.arg ≠ s.arg) :
    s.fetch = none ∧ s.stage = .beforeHost ∧ ∃ v, hostAccess s.hostProg = some (.write 1 v) ∧ t.arg = v := by
  cases ho with
  | inReset hr' => simp [hr] at hr'
  | command hf ho => cases ho <;> exact absurd rfl hne
  | line hf ho => cases ho <;> exact absurd rfl hne
  | phase hf ho => exact absurd ho.hostSideKept.arg hne
  | host hf hs ho =>
    cases ho with
    | quiet | issued => exact absurd rfl hne
    | argWritten v d host ha => exact ⟨hf, hs, v, ha, rfl⟩
  | ticked => exact absurd rfl hne

/-- `HANDLE` and `INIT` are written by an accepted `S.INITIALIZE` alone (R220). -/
theorem StepOutcome.initialize_owner (ho : StepOutcome s t) (hr : s.inReset = false)
    (hne : t.handle ≠ s.handle ∨ t.initFlag ≠ s.initFlag) :
    s.fetch = some (.h 0x01) ∧ s.phase = .idle ∧ t.handle = s.arg ∧ t.initFlag = true := by
  have hchanged : ¬ (t.handle = s.handle ∧ t.initFlag = s.initFlag) := not_and_or.mpr hne
  cases ho with
  | inReset hr' => simp [hr] at hr'
  | command hf ho =>
    cases ho with
    | initialized hp => exact ⟨hf, hp, rfl, rfl⟩
    | refused | readStarted | timerStarted | elapsedRead | delayStarted => exact absurd ⟨rfl, rfl⟩ hchanged
  | line hf ho => cases ho <;> exact absurd ⟨rfl, rfl⟩ hchanged
  | phase hf ho => exact absurd ⟨ho.hostSideKept.handle, ho.hostSideKept.initFlag⟩ hchanged
  | host hf hs ho => cases ho <;> exact absurd ⟨rfl, rfl⟩ hchanged
  | ticked => exact absurd ⟨rfl, rfl⟩ hchanged

theorem StepOutcome.result_owner (ho : StepOutcome s t) (hr : s.inReset = false) (hne : t.result ≠ s.result) :
    (s.fetch = some (.h 0x10) ∧ t.result = s.cnt) ∨ (s.fetch = some (.h 0x11) ∧ t.result = s.elapsedUs s.arg) := by
  cases ho with
  | inReset hr' => simp [hr] at hr'
  | command hf ho =>
    cases ho with
    | timerStarted => exact .inl ⟨hf, rfl⟩
    | elapsedRead => exact .inr ⟨hf, rfl⟩
    | refused | initialized | readStarted | delayStarted => exact absurd rfl hne
  | line hf ho => cases ho <;> exact absurd rfl hne
  | phase hf ho => exact absurd ho.hostSideKept.result hne
  | host hf hs ho => cases ho <;> exact absurd rfl hne
  | ticked => exact absurd rfl hne

theorem StepOutcome.params_eq (ho : StepOutcome s t) : t.params = s.params := by
  cases ho with
  | inReset | ticked => rfl
  | command hf ho => cases ho <;> rfl
  | line hf ho => cases ho <;> rfl
  | phase hf ho => exact ho.hostSideKept.params
  | host hf hs ho => cases ho <;> rfl

theorem StepOutcome.reading_owner (ho : StepOutcome s t) (hr : s.inReset = false) (hne : t.reading ≠ s.reading) :
    s.fetch = some (.p 9) ∧ s.outOfRange = false ∧ t = successExit (gotoPhase .validate { s with issue := none }) := by
  cases ho with
  | inReset hr' => simp [hr] at hr'
  | command hf ho => cases ho <;> exact absurd rfl hne
  | line hf ho => cases ho <;> exact absurd rfl hne
  | phase hf ho =>
    obtain ⟨rfl, hrange, ht⟩ := ho.success_of_reading_ne hne
    exact ⟨hf, hrange, ht⟩
  | host hf hs ho => cases ho <;> exact absurd rfl hne
  | ticked => exact absurd rfl hne

end Owners

/-- Settles O13: each register's owner, and that nothing owns the parameters. -/
theorem hostRegistersChangeOnlyByTheirOwners : Obligations.HostRegistersChangeOnlyByTheirOwners := by
  unfold Obligations.HostRegistersChangeOnlyByTheirOwners
  intro s t hr hstep
  have ho := stepOutcome_of_step hstep
  refine ⟨ho.arg_owner hr, fun hne => ?_, fun hne => ?_, ho.result_owner hr, ho.params_eq⟩
  · obtain ⟨hf, hp, hhandle, -⟩ := ho.initialize_owner hr (.inl hne)
    exact ⟨hf, hp, hhandle⟩
  · obtain ⟨hf, hp, -, hinit⟩ := ho.initialize_owner hr (.inr hne)
    exact ⟨hf, hp, hinit⟩

/-- Settles O49: the owner of `READING` is the success completion, which writes it whole. -/
theorem readingChangesOnlyOnSuccess : Obligations.ReadingChangesOnlyOnSuccess := by
  unfold Obligations.ReadingChangesOnlyOnSuccess
  intro s t hr hstep hne
  obtain ⟨hf, hrange, rfl⟩ := (stepOutcome_of_step hstep).reading_owner hr hne
  obtain ⟨hprimary, hsecondary⟩ := State.outOfRange_eq_false.mp hrange
  exact ⟨hf, rfl, hprimary, hsecondary, rfl, rfl, rfl, rfl⟩

/-- Settles O51: a command leaves `Idle`, a phase leaves along its edges, and nothing else moves `PHASE`. -/
theorem phaseMovesAlongTheSequence : Obligations.PhaseMovesAlongTheSequence := by
  unfold Obligations.PhaseMovesAlongTheSequence
  intro s t h hr hstep hne
  cases stepOutcome_of_step hstep with
  | inReset hr' => simp [hr] at hr'
  | command hf ho =>
    cases ho with
    | readStarted hp | delayStarted hp =>
      have hidle : s.phase = .idle := hp
      simp [hidle, phaseEdges]
    | refused | initialized | timerStarted | elapsedRead => exact absurd rfl hne
  | line hf ho => cases ho <;> exact absurd rfl hne
  | phase hf ho =>
    rw [h.fetch_phase hf] at hne ⊢
    exact ho.stays_or_edge.resolve_left hne
  | host hf hs ho => cases ho <;> exact absurd rfl hne
  | ticked => exact absurd rfl hne

end Sys2Proof.Machine
end

section
/-! The host register port (20_memory.md): what a host's read answers, where its write goes, and the terminal update of a
transaction, which a read sees whole or not at all (R68). -/

namespace Sys2Proof.Machine

/-! ## The registers by their index -/

/-- The table of R62. -/
theorem readRegister_table (s : State) (idx : BitVec 3) :
    [0, s.arg, s.status, s.reading.word, s.result, s.cnt, s.handle, 0][idx.toNat]? = some (readRegister s idx) := by
  unfold readRegister
  have hidx : idx.toNat < 8 := idx.isLt
  generalize idx.toNat = n at hidx
  interval_cases n <;> rfl

@[simp] theorem writeRegister_cmd (v : Word) (s : State) : writeRegister 0 v s = { s with issue := some (.h v) } := rfl

@[simp] theorem writeRegister_arg (v : Word) (s : State) : writeRegister 1 v s = { s with arg := v } := rfl

/-- The registers from index 2 on are read-only (R37). -/
theorem writeRegister_readOnly {idx : BitVec 3} (h : 2 ≤ idx.toNat) (v : Word) (s : State) : writeRegister idx v s = s := by
  unfold writeRegister
  split
  · omega
  · omega
  · rfl

/-! ## The host's access -/

section Access
variable {s : State} {idx : BitVec 3} {rest : List HostStmt}

theorem hostTurn_of_read (hr : s.inReset = false) (hp : s.hostProg = .rd idx :: rest) :
    hostTurn s = { s with hrdata := some (readRegister s idx), hostProg := rest, stage := .afterHost } := by
  simp [hostTurn, hp, hostAccess, portRead, portWrite, hostRest, hr]

theorem hostTurn_of_write {v : Word} (hr : s.inReset = false) (hp : s.hostProg = .wr idx v :: rest) :
    hostTurn s = { writeRegister idx v s with hrdata := none, hostProg := rest, stage := .afterHost } := by
  simp [hostTurn, hp, hostAccess, portRead, portWrite, hostRest, hr]

theorem step_beforeHost (hr : s.inReset = false) (hq : s.quiescent = true) (hs : s.stage = .beforeHost) :
    step s = .next (hostTurn s) := by
  rw [step_of_quiescent hq, advance_beforeHost hr hs]

end Access

/-- Settles O11: the host's turn answers the register, and the register is the table's entry. -/
theorem hostReadAnswersItsRegister : Obligations.HostReadAnswersItsRegister := by
  unfold Obligations.HostReadAnswersItsRegister
  intro s idx rest v hr hq hs hp hv
  have hvalue : readRegister s idx = v := Option.some.inj ((readRegister_table s idx).symm.trans hv)
  rw [step_beforeHost hr hq hs, hostTurn_of_read hr hp, hvalue]

/-- Settles O12: the host's turn is the write of its register, index by index. -/
theorem hostWriteReachesItsRegister : Obligations.HostWriteReachesItsRegister := by
  unfold Obligations.HostWriteReachesItsRegister
  intro s idx v rest hr hq hs hp
  rw [step_beforeHost hr hq hs, hostTurn_of_write hr hp]
  refine ⟨?_, ?_, fun hreadOnly => ?_⟩
  · rintro rfl
    rw [writeRegister_cmd]
  · rintro rfl
    rw [writeRegister_arg]
  · rw [writeRegister_readOnly hreadOnly]

/-! ## The terminal update -/

theorem HoldState.doneFlag_eq {p : Phase} {s x : State} (hx : HoldState p s x) : x.doneFlag = s.doneFlag := by
  cases hx <;> rfl

theorem HighHoldState.doneFlag_eq {s x : State} (hx : HighHoldState s x) : x.doneFlag = s.doneFlag := by
  cases hx <;> rfl

theorem SampleState.doneFlag_eq {p : Phase} {s x : State} (hx : SampleState p s x) : x.doneFlag = s.doneFlag := by
  cases hx <;> rfl

/-- The two ends of a transaction: the success completion (R184), and the failure exit (R247) from a state that still has
the old Reading. -/
inductive TransactionEnd (s : State) : State → Prop
  | success : TransactionEnd s (successExit (gotoPhase .validate s))
  | failure {e : ErrorKind} {x : State} (he : e ≠ .noError) (hx : x.reading = s.reading) :
      TransactionEnd s (failureExit e x)

/-- The block of a phase writes `DONE` at an end of the transaction alone. -/
theorem PhaseOutcome.end_of_doneFlag_ne {p : Phase} {s t : State} (ho : PhaseOutcome s p t)
    (hne : t.doneFlag ≠ s.doneFlag) : TransactionEnd s t := by
  cases ho with
  | frameDelivered => exact .success
  | frameRejected he => exact .failure he rfl
  | waitFailed _ he hx => exact .failure he hx.reading_eq
  | lowHeld hx | lowEnded hx | bitHeld hx | bitStored hx => exact absurd hx.doneFlag_eq hne
  | highHeld hx | highEnded hx => exact absurd hx.doneFlag_eq hne
  | waitGoesOn _ hx | waitPassed _ hx | bitCompleted hx => exact absurd hx.doneFlag_eq hne
  | notDue | idles | delayHeld | delayEnded => exact absurd rfl hne

/-- No command sets `DONE`; `S.READ` clears it (R172). -/
theorem CommandOutcome.doneFlag_of_doneFlag {w : BitVec 32} {s t : State} (ho : CommandOutcome s w t)
    (ht : t.doneFlag = true) : s.doneFlag = true := by
  cases ho with
  | readStarted => cases ht
  | refused | initialized | timerStarted | elapsedRead | delayStarted => exact ht

/-- A step that sets `DONE` is an end of the transaction. -/
theorem StepOutcome.end_of_doneFlag {s t : State} (ho : StepOutcome s t) (hs : s.doneFlag = false)
    (ht : t.doneFlag = true) : TransactionEnd { s with issue := none } t := by
  have hne : t.doneFlag ≠ s.doneFlag := by simp [hs, ht]
  cases ho with
  | phase _ ho => exact ho.end_of_doneFlag_ne hne
  | command _ ho => exact absurd (ho.doneFlag_of_doneFlag ht) (by simp [hs])
  | inReset => cases ht
  | line _ ho => cases ho <;> exact absurd rfl hne
  | host _ _ ho => cases ho <;> exact absurd rfl hne
  | ticked => exact absurd rfl hne

/-- Settles O50: `DONE` is set by an end of the transaction, and each end writes all of the update at once. -/
theorem terminalUpdateIsOneStep : Obligations.TerminalUpdateIsOneStep := by
  unfold Obligations.TerminalUpdateIsOneStep
  intro s t _ _ hstep hs ht
  cases (stepOutcome_of_step hstep).end_of_doneFlag hs ht with
  | success => exact ⟨rfl, rfl, rfl, .inl ⟨rfl, rfl, rfl⟩⟩
  | failure he hx => exact ⟨rfl, rfl, rfl, .inr ⟨rfl, he, hx⟩⟩

end Sys2Proof.Machine
end

section
/-! The three code formats (30_encoding.md): every operation's word decodes to it, a word decodes to no operation but the
one whose word it is, and an illegal command word is refused. -/

namespace Sys2Proof.Machine

/-! ## From an operation to its word -/

/-- Every operation's own word decodes to it (R92, R94, R100). -/
theorem decode_encode (i : Instr) : decode (encode i) = .ok i := by
  cases i with
  | sInitialize | sRead | tStart | tElapsedUs | tDelayUs => rfl
  | lSetMode m => cases m <;> rfl
  | lWrite v => cases v <;> rfl
  | lRead => rfl
  | pIdle => exact decode_phase .idle
  | pStartLow => exact decode_phase .startLow
  | pStartHigh => exact decode_phase .startHigh
  | pRespWait => exact decode_phase .respWait
  | pRespLow => exact decode_phase .respLow
  | pRespHigh => exact decode_phase .respHigh
  | pBitLow => exact decode_phase .bitLow
  | pBitDelay => exact decode_phase .bitDelay
  | pBitHigh => exact decode_phase .bitHigh
  | pValidate => exact decode_phase .validate
  | pHostDelay => exact decode_phase .hostDelay

/-! ## From a word to its operation -/

theorem Mode.code_ofBit (b : Bool) : (Mode.ofBit b).code = BitVec.ofBool b := by
  cases b <;> rfl

theorem Level.code_ofBit (b : Bool) : (Level.ofBit b).code = BitVec.ofBool b := by
  cases b <;> rfl

/-- A format M word whose bits 8:1 are `micro` is `micro` with the word's own operand bit (R94). -/
theorem microWord_of_fields {w : BitVec 9} {micro : BitVec 8} (h : (w.extractLsb' 1 8).toNat = micro.toNat) :
    microWord micro (BitVec.ofBool (w.getLsbD 0)) = .m w := by
  have hmicro : w.extractLsb' 1 8 = micro := BitVec.eq_of_toNat_eq h
  subst hmicro
  refine congrArg CodeWord.m (BitVec.eq_of_getLsbD_eq fun k hk => ?_)
  rw [BitVec.getLsbD_append]
  cases k with
  | zero => simp
  | succ k => simp [show k < 8 by omega, Nat.add_comm]

/-- A Line Driver word that decodes is the one word of its operation with its operand (R94). -/
theorem encode_of_decodeMicro {w : BitVec 9} {i : Instr} (h : decodeMicro w = .ok i) : encode i = .m w := by
  unfold decodeMicro at h
  split at h
  case h_1 hopcode =>
    cases h
    rw [← microWord_of_fields (micro := 0x20) hopcode, ← Mode.code_ofBit]
    rfl
  case h_2 hopcode =>
    cases h
    rw [← microWord_of_fields (micro := 0x21) hopcode, ← Level.code_ofBit]
    rfl
  case h_3 hopcode =>
    split at h
    · cases h
    · rename_i hoperand
      cases h
      rw [← microWord_of_fields (micro := 0x22) hopcode, Bool.eq_false_of_not_eq_true hoperand]
      rfl
  case h_4 => cases h

theorem encode_phase (p : Phase) : encode p.instr = .p p.code := by
  cases p <;> rfl

/-- A phase code that decodes is the one code of its phase's operation (R100). -/
theorem encode_of_decodePhase {w : BitVec 4} {i : Instr} (h : decodePhase w = .ok i) : encode i = .p w := by
  unfold decodePhase at h
  split at h
  · rename_i p hp
    cases h
    rw [encode_phase, Phase.code_of_ofCode hp]
  · cases h

/-- A word that decodes is the one word of its operation (R90, R94, R100). -/
theorem encode_of_decode {c : CodeWord} {i : Instr} (h : decode c = .ok i) : encode i = c := by
  cases c with
  | h w => exact encode_of_decodeCommand h
  | m w => exact encode_of_decodeMicro h
  | p w => exact encode_of_decodePhase h

/-- Settles O2: the encoder is a right inverse of the decoder on all operations, and a left inverse on the words that
decode. -/
theorem decodeInvertsEncodeExactly : Obligations.DecodeInvertsEncodeExactly := by
  unfold Obligations.DecodeInvertsEncodeExactly
  intro c i
  constructor
  · exact encode_of_decode
  · rintro rfl
    exact decode_encode i

/-! ## Illegal command words -/

/-- The word of a host command is legal: its upper bits are zero and its opcode is listed (R92). -/
theorem legal_of_encode_eq_command {i : Instr} {w : BitVec 32} (h : encode i = .h w) :
    w.extractLsb' 8 24 = 0 ∧ (w.extractLsb' 0 8).toNat ∈ [0x01, 0x02, 0x10, 0x11, 0x12] := by
  cases i with
  | sInitialize | sRead | tStart | tElapsedUs | tDelayUs => cases h; decide
  | lSetMode _ | lWrite _ | lRead => cases h
  | pIdle | pStartLow | pStartHigh | pRespWait | pRespLow | pRespHigh | pBitLow | pBitDelay | pBitHigh | pValidate
  | pHostDelay => cases h

/-- A command word that stands for no operation is refused (R93). -/
theorem runWord_of_undecoded {w : BitVec 32} (h : ∀ i, decode (.h w) ≠ .ok i) (s : State) :
    runWord (.h w) s = .next (refuseCommand s) := by
  cases hd : decode (.h w) with
  | ok i => exact absurd hd (h i)
  | error e => simp [runWord, hd, rejectWord]

/-- Settles O3: an illegal word is the word of no command, so it does not decode, and running it is the refusal. -/
theorem illegalCommandWordRefused : Obligations.IllegalCommandWordRefused := by
  unfold Obligations.IllegalCommandWordRefused
  intro s w hr hi hillegal
  have hundecoded : ∀ i, decode (.h w) ≠ .ok i := by
    intro i hd
    obtain ⟨hupper, hopcode⟩ := legal_of_encode_eq_command (encode_of_decode hd)
    exact hillegal.elim (absurd hupper) (absurd hopcode)
  rw [step_of_issue hr hi, runWord_of_undecoded hundecoded]
  rfl

/-! ## The listed words -/

/-- Settles O1: each listed word is its operation's own; of the last five words the decoder names what is wrong. -/
theorem listedWordsDecode : Obligations.ListedWordsDecode := by
  unfold Obligations.ListedWordsDecode
  exact ⟨decode_encode .sInitialize, decode_encode .sRead, decode_encode .tStart, decode_encode .tElapsedUs,
    decode_encode .tDelayUs,
    decode_encode (.lSetMode .input), decode_encode (.lSetMode .output),
    decode_encode (.lWrite .low), decode_encode (.lWrite .high), decode_encode .lRead,
    decode_phase .idle, decode_phase .startLow, decode_phase .startHigh, decode_phase .respWait, decode_phase .respLow,
    decode_phase .respHigh, decode_phase .bitLow, decode_phase .bitDelay, decode_phase .bitHigh, decode_phase .validate,
    decode_phase .hostDelay,
    rfl, rfl, rfl, rfl, rfl⟩

end Sys2Proof.Machine
end

section
/-! The receipt of bits (R96, R180, R181): each bit comes into its byte from the right, so the bits of a byte read in wire
order move up by one and the new bit is the last. -/

namespace Sys2Proof.Machine

/-! ## One bit -/

/-- A byte's bits in wire order, written out (R66). -/
theorem wireBits_eq (b : Byte) :
    wireBits b = [b.getLsbD 7, b.getLsbD 6, b.getLsbD 5, b.getLsbD 4, b.getLsbD 3, b.getLsbD 2, b.getLsbD 1, b.getLsbD 0] :=
  rfl

@[simp] theorem length_wireBits (b : Byte) : (wireBits b).length = 8 := rfl

/-- A bit shifted in is the last in wire order, behind the bits that were there (R180). -/
theorem wireBits_shiftIn (b : Byte) (bit : Bool) :
    wireBits (shiftIn b (BitVec.ofBool bit)) = (wireBits b).drop 1 ++ [bit] := by
  simp [wireBits_eq, shiftIn]

/-- `FB` read byte by byte after one byte is written (R26). -/
theorem frameByte_write {s : State} (hwf : s.fb.wf = true) (a : Nat) (v : Byte) (j : Nat) :
    ({ s with fb := s.fb.write a v } : State).frameByte j = if j = a then v else s.frameByte j :=
  Memory.read_write hwf j

@[simp] theorem completeBit_frameByte (s : State) (j : Nat) : (completeBit s).frameByte j = s.frameByte j := rfl

/-- What receiving `bits` into byte `i` does: they are counted, in wire order they come in behind the byte's earlier bits
and push out as many of those from the front, and no other byte changes. -/
structure BitsReceived (i : Nat) (bits : List Bool) (s t : State) : Prop where
  count : t.bitidx.toNat = s.bitidx.toNat + bits.length
  frame : t.fb.wf = true
  byte : wireBits (t.frameByte i) = (wireBits (s.frameByte i) ++ bits).drop bits.length
  others : ∀ j, j ≠ i → t.frameByte j = s.frameByte j

/-- One bit shifted in and counted (R180, R181). -/
theorem shiftBit_bitsReceived {s : State} {i : Nat} (bit : Bool) (hi : i < 5) (hwf : s.fb.wf = true)
    (haddr : s.bitidx.toNat / 8 = i) :
    ∃ x, shiftBit (BitVec.ofBool bit) s = .next x ∧ BitsReceived i [bit] s (completeBit x) := by
  have haddr' : s.frameAddress = i := haddr
  refine ⟨_, storeFrameByte_of_lt (haddr'.symm ▸ hi), ?_⟩
  rw [haddr']
  constructor
  case count =>
    rw [completeBit_bitidx, List.length_singleton]
    bv_omega
  case frame => exact Memory.wf_write hwf hi
  case byte =>
    rw [completeBit_frameByte, frameByte_write hwf, if_pos rfl, wireBits_shiftIn]
    rfl
  case others =>
    intro j hj
    rw [completeBit_frameByte, frameByte_write hwf, if_neg hj]

/-! ## Several bits -/

theorem BitsReceived.refl {s : State} (hwf : s.fb.wf = true) (i : Nat) : BitsReceived i [] s s :=
  ⟨rfl, hwf, by simp, fun _ _ => rfl⟩

/-- Receipts into one byte join: what the first pushes out of the byte does not depend on the second. -/
theorem BitsReceived.trans {i : Nat} {bits bits' : List Bool} {s x t : State} (h : BitsReceived i bits s x)
    (h' : BitsReceived i bits' x t) : BitsReceived i (bits ++ bits') s t where
  count := by rw [h'.count, h.count, List.length_append, Nat.add_assoc]
  frame := h'.frame
  byte := by
    have hle : bits.length ≤ (wireBits (s.frameByte i) ++ bits).length := by simp
    rw [h'.byte, h.byte, ← List.drop_append_of_le_length hle, List.drop_drop, List.append_assoc, List.length_append]
  others j hj := (h'.others j hj).trans (h.others j hj)

/-- Bits received while the address stays in byte `i` go into that byte. -/
theorem receiveBits_bitsReceived {i : Nat} (hi : i < 5) (bits : List Bool) (s : State) (hwf : s.fb.wf = true)
    (hlow : 8 * i ≤ s.bitidx.toNat) (hhigh : s.bitidx.toNat + bits.length ≤ 8 * i + 8) :
    ∃ t, receiveBits bits s = .next t ∧ BitsReceived i bits s t := by
  induction bits generalizing s with
  | nil => exact ⟨s, rfl, .refl hwf i⟩
  | cons bit bits ih =>
    rw [List.length_cons] at hhigh
    obtain ⟨x, hx, hbit⟩ := shiftBit_bitsReceived bit hi hwf (by omega)
    have hcount : (completeBit x).bitidx.toNat = s.bitidx.toNat + 1 := hbit.count
    obtain ⟨t, ht, hbits⟩ := ih (completeBit x) hbit.frame (by omega) (by omega)
    refine ⟨t, ?_, hbit.trans hbits⟩
    rw [receiveBits, hx, andThen_next, ht]

/-- Settles O38: after eight bits none of the byte's earlier bits is left, so its bits in wire order are the ones
received. -/
theorem eightBitsAssembleByteMsbFirst : Obligations.EightBitsAssembleByteMsbFirst := by
  unfold Obligations.EightBitsAssembleByteMsbFirst
  intro s i bits hi hlen hwf hidx _
  obtain ⟨t, ht, hr⟩ := receiveBits_bitsReceived hi bits s hwf (by omega) (by omega)
  refine ⟨t, ht, ?_, hr.frame, ?_, hr.others⟩
  · rw [hr.count, hidx, hlen]
  · rw [hr.byte, hlen, List.drop_left' (length_wireBits _)]

end Sys2Proof.Machine
end

section
/-! The Microsecond Timer's commands and waits (40_timer.md, R131 to R137): what the counter measures since `S`, what each
timer operation does, and when a host delay's step leaves it. -/

namespace Sys2Proof.Machine

/-! ## What the counter measures -/

/-- The condition of a timed wait, by the whole microseconds since `S` (R136). -/
theorem waited_iff_le_sinceS {s : State} {n : Nat} : s.waited n = true ↔ n ≤ s.sinceS :=
  waited_iff s n

theorem waited_eq_false_iff {s : State} {n : Nat} : s.waited n = false ↔ s.sinceS < n := by
  rw [← Bool.not_eq_true, waited_iff_le_sinceS, Nat.not_le]

/-- A timed wait is over when as many ticks have gone by as its microseconds have (R10, R136). -/
theorem waited_iff_us_le {s : State} {n : Nat} (hpos : 0 < s.params.ticksPerUs) :
    s.waited n = true ↔ s.params.us n ≤ (s.cnt - s.sReg).toNat := by
  rw [waited_iff, Nat.le_div_iff_mul_le hpos]
  rfl

/-- No wait beyond the counter's range is ever over (R134, U11). -/
theorem waited_of_overlong {s : State} {n : Nat} (hn : (2 ^ 32 - 1) / s.params.ticksPerUs < n) : s.waited n = false := by
  rw [waited_eq_false_iff]
  have hrange : (s.cnt - s.sReg).toNat ≤ 2 ^ 32 - 1 := Nat.le_sub_one_of_lt (s.cnt - s.sReg).isLt
  exact Nat.lt_of_le_of_lt (Nat.div_le_div_right hrange) hn

/-- The counter's difference between two instants is the ticks between them modulo its period (R20, R134). -/
theorem toNat_ofNat_sub_ofNat {t0 t1 : Nat} (h : t0 ≤ t1) :
    (BitVec.ofNat 32 t1 - BitVec.ofNat 32 t0).toNat = (t1 - t0) % 2 ^ 32 := by
  rw [BitVec.toNat_sub, BitVec.toNat_ofNat, BitVec.toNat_ofNat]
  omega

/-- Settles O43: the wrapped difference of the two counts, which within one period is the difference itself. -/
theorem elapsedIsTrueTimeWithinOnePeriod : Obligations.ElapsedIsTrueTimeWithinOnePeriod := by
  unfold Obligations.ElapsedIsTrueTimeWithinOnePeriod
  intro s t0 t1 hle hcnt
  have helapsed : (s.elapsedUs (BitVec.ofNat 32 t0)).toNat = (t1 - t0) % 2 ^ 32 / s.params.ticksPerUs := by
    rw [elapsedUs_toNat, hcnt, toNat_ofNat_sub_ofNat hle]
  exact ⟨helapsed, fun hperiod => by rw [helapsed, Nat.mod_eq_of_lt hperiod]⟩

/-! ## The timer's commands -/

/-- Settles O17: `T.START` has no condition. -/
theorem timerStartSnapshotsCounter : Obligations.TimerStartSnapshotsCounter := by
  unfold Obligations.TimerStartSnapshotsCounter
  intro s
  rfl

/-- Settles O18: `RESULT` gets the primitive's answer, whose quotient fits it. -/
theorem elapsedDividesWrappedDifference : Obligations.ElapsedDividesWrappedDifference := by
  unfold Obligations.ElapsedDividesWrappedDifference
  intro s
  exact ⟨s.elapsedUs s.arg, elapsedUs_toNat s s.arg, rfl⟩

theorem exec_tDelayUs (s : State) :
    exec .tDelayUs s =
      if s.busy then .next (refuseCommand s)
      else .next (gotoPhase .hostDelay { acceptCommand s with dnReg := s.arg, sReg := s.cnt }) := rfl

/-- Settles O19: in `Idle` the block is not busy, so the delay is accepted. -/
theorem delayCommandStartsHostDelay : Obligations.DelayCommandStartsHostDelay := by
  unfold Obligations.DelayCommandStartsHostDelay
  intro s hp
  rw [exec_tDelayUs, State.busy_eq_false.mpr hp]
  rfl

/-! ## A host delay in one step -/

/-- The block of `P.HOST_DELAY` (R137): it leaves for `Idle`, or it waits. -/
theorem exec_pHostDelay (s : State) :
    exec .pHostDelay s =
      if s.waited s.dnReg.toNat then .next (gotoPhase .idle s) else .next { s with phase := .hostDelay, begun := true } := rfl

theorem exec_pHostDelay_of_waited {s : State} (hw : s.waited s.dnReg.toNat = true) :
    exec .pHostDelay s = .next (gotoPhase .idle s) := by
  rw [exec_pHostDelay, if_pos hw]

theorem exec_pHostDelay_of_not_waited {s : State} (hp : s.phase = .hostDelay) (hw : s.waited s.dnReg.toNat = false) :
    exec .pHostDelay s = .next { s with begun := true } := by
  rw [exec_pHostDelay, hw, ← hp]
  rfl

/-- Settles O34: the two sides of the wait's condition. -/
theorem hostDelayWaitsForItsOperand : Obligations.HostDelayWaitsForItsOperand := by
  unfold Obligations.HostDelayWaitsForItsOperand
  exact ⟨fun s hp hlt => exec_pHostDelay_of_not_waited hp (waited_eq_false_iff.mpr hlt),
    fun s _ hle => exec_pHostDelay_of_waited (waited_iff_le_sinceS.mpr hle)⟩

end Sys2Proof.Machine
end

section
/-! The passing of time in a wait (R13, R136, R294): what the host can do to a busy block, one whole instant in which the
sequencer waits, as many instants as the wait lasts, and the course of a host delay from its acceptance to `Idle`. -/

namespace Sys2Proof.Machine

open Relation

/-! ## The host beside a busy block -/

/-- `t` is `s` but for what the host's turn and its commands write while the block is busy, and the place in the
instant (R222, R285). -/
inductive HostTouched (s : State) : State → Prop
  | intro (arg : Word) (cmderr : Bool) (result : Word) (d : Option Word) (host : List HostStmt) (stage : Stage)
      (issue : Option CodeWord) :
      HostTouched s
        { s with
          arg := arg, cmderrFlag := cmderr, result := result, hrdata := d, hostProg := host, stage := stage, issue := issue }

theorem HostTouched.refl (s : State) : HostTouched s s := .intro ..

theorem HostTouched.trans {s u t : State} (h : HostTouched s u) (h' : HostTouched u t) : HostTouched s t := by
  cases h
  cases h'
  exact .intro ..

theorem HostTouched.phase_eq {s t : State} (h : HostTouched s t) : t.phase = s.phase := by
  cases h
  rfl

theorem HostTouched.dnReg_eq {s t : State} (h : HostTouched s t) : t.dnReg = s.dnReg := by
  cases h
  rfl

theorem HostTouched.params_eq {s t : State} (h : HostTouched s t) : t.params = s.params := by
  cases h
  rfl

theorem HostTouched.inReset_eq {s t : State} (h : HostTouched s t) : t.inReset = s.inReset := by
  cases h
  rfl

/-- Whether the sequencer has an enabled step is none of the host's business. -/
theorem HostTouched.enabled_eq {s t : State} (h : HostTouched s t) : t.enabled = s.enabled := by
  cases h
  rfl

theorem HostTouched.tick {s t : State} (h : HostTouched s t) : HostTouched (tick s) (tick t) := by
  cases h
  exact .intro ..

theorem HostOutcome.hostTouched {s t : State} (ho : HostOutcome s t) : HostTouched s t := by
  cases ho <;> exact .intro ..

/-- The host's turn issues no word but a command. -/
theorem HostOutcome.issue_cases {s t : State} (ho : HostOutcome s t) (hi : s.issue = none) :
    t.issue = none ∨ ∃ w, t.issue = some (.h w) := by
  cases ho with
  | quiet | argWritten => exact .inl hi
  | issued v => exact .inr ⟨v, rfl⟩

theorem HostOutcome.stage_eq {s t : State} (ho : HostOutcome s t) : t.stage = .afterHost := by
  cases ho <;> rfl

/-- While the block is busy a command writes `CMDERR` and `RESULT` at most (R222, R285). -/
theorem CommandOutcome.of_busy {s t : State} {w : BitVec 32} (ho : CommandOutcome s w t) (hbusy : s.phase ≠ .idle) :
    ∃ (c : Bool) (r : Word), t = { s with cmderrFlag := c, result := r } := by
  cases ho with
  | refused | timerStarted | elapsedRead => exact ⟨_, _, rfl⟩
  | initialized hp | readStarted hp | delayStarted hp => exact absurd hp hbusy

/-- No command word stops the machine (R93, R222). -/
theorem runWord_command_next (w : BitVec 32) (s : State) : ∃ t, runWord (.h w) s = .next t := by
  unfold runWord
  split
  · rename_i i hd
    have hw : encode i = .h w := encode_of_decode hd
    cases i with
    | tStart | tElapsedUs => exact ⟨_, rfl⟩
    | sInitialize =>
      change ∃ t, execSInitialize s = .next t
      unfold execSInitialize
      split <;> exact ⟨_, rfl⟩
    | sRead =>
      change ∃ t, execSRead s = .next t
      unfold execSRead
      split <;> exact ⟨_, rfl⟩
    | tDelayUs =>
      rw [exec_tDelayUs]
      split <;> exact ⟨_, rfl⟩
    | lSetMode _ | lWrite _ | lRead => cases hw
    | pIdle | pStartLow | pStartHigh | pRespWait | pRespLow | pRespHigh | pBitLow | pBitDelay | pBitHigh | pValidate
    | pHostDelay => cases hw
  · exact ⟨_, rfl⟩

/-! ## One instant of a wait -/

/-- The phase's own step in an instant in which the sequencer has one (R13). -/
theorem step_of_phase {p : Phase} {s : State} (hp : s.phase = p) (hr : s.inReset = false) (hi : s.issue = none)
    (he : s.enabled = true) : step s = exec p.instr s := by
  rw [step_of_enabled hr hi he, runWord_phase, hp]

/-- One step, taken in phase `p`. -/
def StepIn (p : Phase) (s t : State) : Prop := s.phase = p ∧ step s = .next t

/-- Steps taken in one phase are a run that stays in it up to its last step. -/
theorem StepIn.run {p : Phase} {s t : State} (h : ReflTransGen (StepIn p) s t) :
    ∃ k, Reaches s k t ∧ ∀ j, j < k → ∃ u, Reaches s j u ∧ u.phase = p := by
  induction h using ReflTransGen.head_induction_on with
  | refl => exact ⟨0, .zero t, fun j hj => absurd hj (Nat.not_lt_zero j)⟩
  | head hsu _ ih =>
    obtain ⟨hp, hstep⟩ := hsu
    obtain ⟨k, hrun, hstays⟩ := ih
    refine ⟨k + 1, .cons hstep hrun, fun j hj => ?_⟩
    cases j with
    | zero => exact ⟨_, .zero _, hp⟩
    | succ j =>
      obtain ⟨u, hu, hphase⟩ := hstays j (Nat.lt_of_succ_lt_succ hj)
      exact ⟨u, .cons hstep hu, hphase⟩

/-- After the host's turn of an instant in which the sequencer waits, the command issued, if any, and the tick. -/
theorem tick_after_host {s : State} (hbusy : s.phase ≠ .idle) (hr : s.inReset = false) (he : s.enabled = false)
    (hs : s.stage = .afterHost) (hissue : s.issue = none ∨ ∃ w, s.issue = some (.h w)) :
    ∃ t, ReflTransGen (StepIn s.phase) s t ∧ HostTouched (tick s) t ∧ t.issue = none := by
  have htick : ∀ {u : State}, HostTouched s u → u.issue = none → u.stage = .afterHost → StepIn s.phase u (tick u) := by
    intro u hu hi hs
    have hq : u.quiescent = true := State.quiescent_iff.mpr ⟨hi, hu.enabled_eq.trans he⟩
    exact ⟨hu.phase_eq, by rw [step_of_quiescent hq, advance_afterHost (hu.inReset_eq.trans hr) hs]⟩
  rcases hissue with hi | ⟨w, hw⟩
  · exact ⟨tick s, .single (htick (.refl s) hi hs), .refl _, hi⟩
  · obtain ⟨u, hrun⟩ := runWord_command_next w { s with issue := none }
    obtain ⟨c, r, rfl⟩ := (commandOutcome_of_runWord hrun).of_busy hbusy
    have hcommand : StepIn s.phase s { s with issue := none, cmderrFlag := c, result := r } :=
      ⟨rfl, (step_of_issue hr hw).trans hrun⟩
    have htouched : HostTouched s { s with issue := none, cmderrFlag := c, result := r } := .intro ..
    exact ⟨_, .head hcommand (.single (htick htouched rfl hs)), htouched.tick, rfl⟩

/-- One instant in which a busy sequencer waits, from anywhere in it: whatever the host does, the tick comes, and the
sequencer's registers pass it as they are (R13, R285). -/
theorem instant_passes {s : State} (hbusy : s.phase ≠ .idle) (hr : s.inReset = false) (hq : s.quiescent = true) :
    ∃ t, ReflTransGen (StepIn s.phase) s t ∧ HostTouched (tick s) t ∧ t.issue = none := by
  obtain ⟨hi, he⟩ := State.quiescent_iff.mp hq
  cases hs : s.stage with
  | afterHost => exact tick_after_host hbusy hr he hs (.inl hi)
  | beforeHost =>
    have ho := hostTurn_outcome hr
    have htouched := ho.hostTouched
    obtain ⟨t, hrun, ht, hissue⟩ := tick_after_host (htouched.phase_eq.symm ▸ hbusy) (htouched.inReset_eq.trans hr)
      (htouched.enabled_eq.trans he) ho.stage_eq (ho.issue_cases hi)
    rw [htouched.phase_eq] at hrun
    exact ⟨t, .head ⟨rfl, step_beforeHost hr hq hs⟩ hrun, htouched.tick.trans ht, hissue⟩

/-! ## The instants of a wait -/

/-- `s` after `i` ticks in which the sequencer only waits (R130). -/
def passTicks (i : Nat) (s : State) : State :=
  { s with
    cnt := s.cnt + BitVec.ofNat 32 i, time := s.time + i, sensor := Wave.later^[i] s.sensor }

@[simp] theorem passTicks_zero (s : State) : passTicks 0 s = s := by
  simp [passTicks]

theorem inReset_of_rst_nil {s : State} (h : s.rst = []) : s.inReset = false := by
  simp [State.inReset, h, Wave.at]

/-- With the reset pin at rest, one tick more is a tick. -/
theorem passTicks_succ {s : State} (h : s.rst = []) (i : Nat) : HostTouched (passTicks (i + 1) s) (tick (passTicks i s)) := by
  have htick : tick (passTicks i s) = { passTicks (i + 1) s with hrdata := none, stage := .beforeHost } := by
    rw [tick_outsideReset (inReset_of_rst_nil (s := passTicks i s) h)]
    simp [passTicks, h, Wave.later, Function.iterate_succ_apply', BitVec.ofNat_add, BitVec.add_assoc, Nat.add_assoc]
  rw [htick]
  exact .intro ..

/-- A wait that is not over in any of the next `r` instants lasts `r` ticks, whatever the host does. -/
theorem wait_lasts {s : State} (hbusy : s.phase ≠ .idle) (hb : s.begun = true) (hi : s.issue = none) (hr : s.rst = [])
    (r : Nat) (hwait : ∀ i, i < r → (passTicks i s).waitOver = false) :
    ∃ t, ReflTransGen (StepIn s.phase) s t ∧ HostTouched (passTicks r s) t ∧ t.issue = none := by
  induction r with
  | zero => exact ⟨s, .refl, by simpa using HostTouched.refl s, hi⟩
  | succ r ih =>
    obtain ⟨u, hsu, hu, hiu⟩ := ih fun i hlt => hwait i (Nat.lt_succ_of_lt hlt)
    have hphase : u.phase = s.phase := hu.phase_eq
    have henabled : (passTicks r s).enabled = false := by
      simp [State.enabled, hwait r (Nat.lt_succ_self r), show (passTicks r s).begun = true from hb]
    have hreset : u.inReset = false := hu.inReset_eq.trans (inReset_of_rst_nil (s := passTicks r s) hr)
    obtain ⟨t, hut, ht, hit⟩ := instant_passes (hphase.symm ▸ hbusy) hreset
      (State.quiescent_iff.mpr ⟨hiu, hu.enabled_eq.trans henabled⟩)
    rw [hphase] at hut
    exact ⟨t, hsu.trans hut, ((passTicks_succ hr r).trans hu.tick).trans ht, hit⟩

/-- The condition of a wait begun `i` ticks ago, within one period of the counter (R134, R136). -/
theorem waited_passTicks_iff {s : State} {i n : Nat} (hs : s.sReg = s.cnt) (hpos : 0 < s.params.ticksPerUs)
    (hi : i < 2 ^ 32) : (passTicks i s).waited n = true ↔ s.params.us n ≤ i := by
  have hticks : ((passTicks i s).cnt - (passTicks i s).sReg).toNat = i := by
    change (s.cnt + BitVec.ofNat 32 i - s.sReg).toNat = i
    rw [hs, BitVec.add_comm, BitVec.add_sub_cancel, BitVec.toNat_ofNat, Nat.mod_eq_of_lt hi]
  rw [waited_iff_us_le (s := passTicks i s) hpos, hticks]
  rfl

/-! ## The course of a host delay -/

/-- A host delay that is over is left for `Idle` in the next step, in the same instant (R13, R137). -/
theorem hostDelay_ends {s : State} (hp : s.phase = .hostDelay) (hi : s.issue = none) (hr : s.inReset = false)
    (hw : s.waited s.dnReg.toNat = true) : StepIn .hostDelay s (gotoPhase .idle s) := by
  have henabled : s.enabled = true := by simp [State.enabled, State.waitOver, hp, hw]
  exact ⟨hp, (step_of_phase hp hr hi henabled).trans (exec_pHostDelay_of_waited hw)⟩

/-- A host delay just accepted whose operand is not 0 begins to wait. -/
theorem hostDelay_begins {s : State} (hp : s.phase = .hostDelay) (hb : s.begun = false) (hi : s.issue = none)
    (hr : s.inReset = false) (hw : s.waited s.dnReg.toNat = false) : StepIn .hostDelay s { s with begun := true } := by
  have henabled : s.enabled = true := by simp [State.enabled, hb]
  exact ⟨hp, (step_of_phase hp hr hi henabled).trans (exec_pHostDelay_of_not_waited hp hw)⟩

/-- A host delay under way since this instant, within the counter's range, ends when its operand's ticks have gone by. -/
theorem hostDelay_runs {s : State} (hp : s.phase = .hostDelay) (hb : s.begun = true) (hs : s.sReg = s.cnt)
    (hi : s.issue = none) (hr : s.rst = []) (hpos : 0 < s.params.ticksPerUs)
    (hrange : s.params.us s.dnReg.toNat < 2 ^ 32) :
    ∃ t, ReflTransGen (StepIn .hostDelay) s t ∧ t.phase = .idle ∧ t.time = s.time + s.params.us s.dnReg.toNat := by
  have hover : ∀ i, (passTicks i s).waitOver = (passTicks i s).waited s.dnReg.toNat := fun i => by
    simp [State.waitOver, passTicks, hp]
  obtain ⟨u, hsu, hu, hiu⟩ := wait_lasts (hp.symm ▸ by decide) hb hi hr (s.params.us s.dnReg.toNat) fun i hlt => by
    rw [hover, ← Bool.not_eq_true, waited_passTicks_iff hs hpos (Nat.lt_trans hlt hrange)]
    exact Nat.not_le.mpr hlt
  have hwaited := (waited_passTicks_iff (n := s.dnReg.toNat) hs hpos hrange).mpr (Nat.le_refl _)
  rw [hp] at hsu
  cases hu
  exact ⟨_, hsu.tail (hostDelay_ends hp hiu (inReset_of_rst_nil hr) hwaited), rfl, rfl⟩

/-- Settles O44: the condition of such a wait is never true, so the phase's own step goes on waiting, and neither the
host's turn nor the tick writes `PHASE`. -/
theorem overlongDelayNeverEnds : Obligations.OverlongDelayNeverEnds := by
  unfold Obligations.OverlongDelayNeverEnds
  intro s t hr hi hp hlong hstep
  cases he : s.enabled with
  | true =>
    rw [step_of_phase hp hr hi he] at hstep
    cases (exec_pHostDelay_of_not_waited hp (waited_of_overlong hlong)).symm.trans hstep
    exact ⟨hp, rfl, rfl⟩
  | false =>
    rw [step_of_quiescent (State.quiescent_iff.mpr ⟨hi, he⟩)] at hstep
    cases hs : s.stage with
    | beforeHost =>
      rw [advance_beforeHost hr hs] at hstep
      have htouched : HostTouched s t := (Host.Outcome.next.inj hstep) ▸ (hostTurn_outcome hr).hostTouched
      exact ⟨htouched.phase_eq.trans hp, htouched.dnReg_eq, htouched.params_eq⟩
    | afterHost =>
      rw [advance_afterHost hr hs] at hstep
      cases hstep
      exact ⟨hp, rfl, rfl⟩

/-- Settles O52: a delay of 0 is over at once; any other begins, runs for its operand's ticks, and ends. -/
theorem hostDelayLastsExactlyItsOperand : Obligations.HostDelayLastsExactlyItsOperand := by
  unfold Obligations.HostDelayLastsExactlyItsOperand
  intro s hp hb hs hi hr hpos hdn
  have hreset := inReset_of_rst_nil hr
  have hrange : s.params.us s.dnReg.toNat < 2 ^ 32 :=
    Nat.lt_of_le_sub_one (by decide) ((Nat.le_div_iff_mul_le hpos).mp hdn)
  obtain ⟨t, hst, hidle, htime⟩ : ∃ t, ReflTransGen (StepIn .hostDelay) s t ∧ t.phase = .idle ∧
      t.time = s.time + s.params.us s.dnReg.toNat := by
    cases hw : s.waited s.dnReg.toNat with
    | true =>
      have hzero : s.dnReg.toNat = 0 := (waited_at_start hs _).mp hw
      exact ⟨_, .single (hostDelay_ends hp hi hreset hw), rfl, by simp [hzero, Params.us]⟩
    | false =>
      obtain ⟨t, hrun, ht⟩ := hostDelay_runs (s := { s with begun := true }) hp rfl hs hi hr hpos hrange
      exact ⟨t, .head (hostDelay_begins hp hb hi hreset hw) hrun, ht⟩
  obtain ⟨k, hrun, hstays⟩ := StepIn.run hst
  exact ⟨k, t, hrun, hidle, htime, hstays⟩

end Sys2Proof.Machine
end

section
/-! The Line Driver (41_line_driver.md): what each operation does in each line mode (R151 to R153), and that in a
state with the invariant every `require` clause holds where its operation is issued, so that no step stops (R155). -/

namespace Sys2Proof.Machine

/-! ## The operations -/

theorem State.line_of_output {s : State} (h : s.mode = .output) : s.line = s.out := by
  simp [State.line, h]

theorem lineWrite_of_input {v : Level} {s : State} (h : s.mode = .input) :
    lineWrite v s = .refused .lineWriteInInputMode := by
  simp [lineWrite, h]

theorem lineRead_of_output {s : State} (h : s.mode = .output) : lineRead s = .refused .lineReadInOutputMode := by
  simp [lineRead, h]

/-- Settles O21: `L.SET_MODE` has no condition. -/
theorem setModeSetsModeAlone : Obligations.SetModeSetsModeAlone := by
  unfold Obligations.SetModeSetsModeAlone
  intro s m
  rfl

/-- Settles O22: the write in each mode, and the line in Output mode follows the latch just written. -/
theorem lineWriteDrivesInOutputMode : Obligations.LineWriteDrivesInOutputMode := by
  unfold Obligations.LineWriteDrivesInOutputMode
  exact ⟨fun s v hm => ⟨lineWrite_of_output hm, State.line_of_output (s := { s with out := v }) hm⟩,
    fun s v hm => lineWrite_of_input hm⟩

/-- Settles O23: the read in each mode. -/
theorem lineReadSamplesInInputMode : Obligations.LineReadSamplesInInputMode := by
  unfold Obligations.LineReadSamplesInInputMode
  exact ⟨fun s hm => lineRead_of_input hm, fun s hm => lineRead_of_output hm⟩

/-! ## Shared operations that do not stop -/

/-- A shift inside the 40 bits of a frame finds its byte (R180, R26). -/
theorem shiftBit_exists_next {s : State} (bit : BitVec 1) (h : s.bitidx.toNat < 40) :
    ∃ t, shiftBit bit s = .next t := by
  have haddress : s.frameAddress < 5 := Nat.div_lt_of_lt_mul h
  exact ⟨_, storeFrameByte_of_lt haddress⟩

theorem hold_exists_next {n : Nat} {exit : State → Result} {s : State} (hexit : ∃ t, exit s = .next t) :
    ∃ t, hold n exit s = .next t := by
  unfold hold
  split
  · exact hexit
  · exact ⟨s, rfl⟩

/-- A delay stops at most in what follows it (R136). -/
theorem delayIn_exists_next {p : Phase} {n : Nat} {exit : State → Result} {s : State}
    (hexit : ∀ x, HoldState p s x → ∃ t, exit x = .next t) : ∃ t, delayIn p n exit s = .next t := by
  unfold delayIn
  split
  · exact hold_exists_next (hexit s (.inside ‹_›))
  · exact hold_exists_next (hexit _ .begins)

/-- A sample of the line in Input mode is in the domain of `L.READ` (R153, R171). -/
theorem pollLine_exists_next {l : Level} {e : ErrorKind} {exit : State → Result} {s : State} (hm : s.mode = .input)
    (hexit : ∀ x, ∃ t, exit x = .next t) : ∃ t, pollLine l e exit s = .next t := by
  rw [pollLine, lineRead_of_input hm, andThen_next]
  split
  · split <;> exact ⟨_, rfl⟩
  · exact hexit _

/-- A guarded wait writes no line mode before its sample, so in Input mode it does not stop (R171). -/
theorem waitWhile_exists_next {p : Phase} {l : Level} {e : ErrorKind} {exit : State → Result} {s : State}
    (hm : s.mode = .input) (hexit : ∀ x, ∃ t, exit x = .next t) : ∃ t, waitWhile p l e exit s = .next t := by
  unfold waitWhile
  split
  · exact hold_exists_next (pollLine_exists_next (s := countPoll s) hm hexit)
  · exact pollLine_exists_next (s := beginWait p s) hm hexit

/-! ## Blocks that do not stop -/

/-- `P.START_HIGH` drives the line while its mode is still Output (R174, R155). -/
theorem execPStartHigh_exists_next {s : State} (hm : s.mode = .output) : ∃ t, execPStartHigh s = .next t := by
  have hrelease : ∀ x, ∃ t, hold s.params.startHighUs releaseToSensor x = .next t :=
    fun x => hold_exists_next ⟨_, rfl⟩
  unfold execPStartHigh
  split
  · exact hrelease s
  · rw [lineWrite_of_output (s := { s with phase := .startHigh }) hm, andThen_next]
    exact hrelease _

/-- The sample of a bit is read in Input mode and shifted into one of the frame's 40 places (R179, R180). -/
theorem sampleBit_exists_next {s : State} (hm : s.mode = .input) (hopen : s.bitidx.toNat < 40) :
    ∃ t, sampleBit s = .next t := by
  obtain ⟨t, ht⟩ := shiftBit_exists_next (s := { s with sample := s.sensorLevel }) (Level.bit s.sensorLevel) hopen
  rw [sampleBit, lineRead_of_input hm, andThen_next, ht, andThen_next]
  exact ⟨_, rfl⟩

theorem execPValidate_exists_next (s : State) : ∃ t, execPValidate s = .next t := by
  simp only [execPValidate]
  split
  · split <;> exact ⟨_, rfl⟩
  · exact ⟨_, rfl⟩

/-- Where the invariant's row for a phase holds, the block of the phase does not stop: the row gives the line mode that
its Line Driver operations require, and keeps `BITIDX` inside the frame where a bit is stored (R155, R285). -/
theorem exec_phase_exists_next {s : State} {p : Phase} (h : BlockInv s p) : ∃ t, exec p.instr s = .next t := by
  cases p with
  | idle => exact ⟨_, rfl⟩
  | startLow => exact delayIn_exists_next fun x _ => ⟨_, rfl⟩
  | startHigh =>
    obtain ⟨-, ⟨-, hmode⟩, -⟩ := h
    exact execPStartHigh_exists_next hmode
  | respWait | respLow | respHigh | bitLow | bitHigh =>
    obtain ⟨-, ⟨-, hmode⟩, -⟩ := h
    exact waitWhile_exists_next hmode fun x => ⟨_, rfl⟩
  | bitDelay =>
    refine delayIn_exists_next fun x hx => ?_
    obtain ⟨-, ⟨-, hmode⟩, hopen⟩ := hx.blockInv h
    exact sampleBit_exists_next hmode hopen
  | validate => exact execPValidate_exists_next s
  | hostDelay => exact hold_exists_next (exit := fun s => .next (gotoPhase .idle s)) ⟨_, rfl⟩

/-! ## The step -/

/-- Settles O47: a step of an invariant state runs a command word, or the block of `PHASE`, or no operation at all, and
none of the three stops. -/
theorem invariantStateNeverStops : Obligations.InvariantStateNeverStops := by
  unfold Obligations.InvariantStateNeverStops
  intro s h
  cases hf : s.fetch with
  | none => exact ⟨_, step_of_no_fetch hf⟩
  | some c =>
    rw [step_of_fetch hf]
    rcases h.fetch_cases hf with ⟨w, rfl⟩ | rfl
    · exact runWord_command_next w _
    · rw [runWord_phase]
      exact exec_phase_exists_next h.clearIssue.blockInv

end Sys2Proof.Machine
end

section
/-! The blocks of the phases in one instant (42_decoder.md, R170 to R181, R189): what a hold, a delay and a guarded wait
answer in each of their cases, and from these the operation of each phase. -/

namespace Sys2Proof.Machine

/-! ## Holds and delays (R136) -/

section Delay
variable {s : State} {p : Phase} {n : Nat} {exit : State → Result}

theorem hold_of_waited (h : s.waited n = true) : hold n exit s = exit s :=
  if_pos h

theorem hold_of_le_sinceS (h : n ≤ s.sinceS) : hold n exit s = exit s :=
  hold_of_waited (waited_iff_le_sinceS.mpr h)

theorem hold_of_sinceS_lt (h : s.sinceS < n) : hold n exit s = .next s := by
  rw [hold, waited_eq_false_iff.mpr h]
  rfl

theorem delayIn_of_inside (h : s.inside p = true) : delayIn p n exit s = hold n exit s := by
  rw [delayIn, h]
  rfl

theorem delayIn_of_outside (h : s.inside p = false) : delayIn p n exit s = hold n exit (beginDelay p s) := by
  rw [delayIn, h]
  rfl

/-- In the instant it takes, a delay has waited for no time. -/
@[simp] theorem sinceS_beginDelay (p : Phase) (s : State) : (beginDelay p s).sinceS = 0 := by
  simp [State.sinceS, beginDelay, State.instant]

/-- A delay of some time begins and waits. -/
theorem delayIn_begins (h : s.inside p = false) (hn : 0 < n) : delayIn p n exit s = .next (beginDelay p s) := by
  rw [delayIn_of_outside h, hold_of_sinceS_lt (by simpa using hn)]

end Delay

theorem exec_pIdle (s : State) : exec .pIdle s = .next { s with phase := .idle, begun := true } := rfl

/-- Settles O24: `P.IDLE` begins its block, and its wait is for no instant. -/
theorem idleWaitsForCommands : Obligations.IdleWaitsForCommands := by
  unfold Obligations.IdleWaitsForCommands
  constructor
  · intro s hp
    rw [exec_pIdle, ← hp]
  · intro s hp hb
    simp [State.enabled, State.waitOver, hp, hb]

theorem exec_pStartLow (s : State) :
    exec .pStartLow s = delayIn .startLow s.params.startLowUs (fun s => .next (gotoPhase .startHigh s)) s := rfl

/-- Settles O25: the delay of `P.START_LOW` at its beginning and inside it. -/
theorem startLowHoldsItsTime : Obligations.StartLowHoldsItsTime := by
  unfold Obligations.StartLowHoldsItsTime
  refine ⟨fun s hout hpos => ?_, fun s hout hzero => ?_, fun s hin hlt => ?_, fun s hin hle => ?_⟩
  · rw [exec_pStartLow, delayIn_begins hout hpos]
    rfl
  · rw [exec_pStartLow, delayIn_of_outside hout, hold_of_le_sinceS (by simp [hzero])]
    rfl
  · rw [exec_pStartLow, delayIn_of_inside hin, hold_of_sinceS_lt hlt]
  · rw [exec_pStartLow, delayIn_of_inside hin, hold_of_le_sinceS hle]
    rfl

/-- The state in which the hold of `P.START_HIGH` begins: the line driven High, the instant taken (R174). -/
def beginHighHold (s : State) : State := beginDelay .startHigh { s with phase := .startHigh, out := .high }

theorem exec_pStartHigh_inside {s : State} (h : s.inside .startHigh = true) :
    exec .pStartHigh s = hold s.params.startHighUs releaseToSensor s :=
  if_pos h

theorem exec_pStartHigh_outside {s : State} (h : s.inside .startHigh = false) (hm : s.mode = .output) :
    exec .pStartHigh s = hold s.params.startHighUs releaseToSensor (beginHighHold s) := by
  change execPStartHigh s = _
  rw [execPStartHigh, h, lineWrite_of_output (s := { s with phase := .startHigh }) hm]
  rfl

theorem exec_pStartHigh_refused {s : State} (h : s.inside .startHigh = false) (hm : s.mode = .input) :
    exec .pStartHigh s = .refused .lineWriteInInputMode := by
  change execPStartHigh s = _
  rw [execPStartHigh, h, lineWrite_of_input (s := { s with phase := .startHigh }) hm]
  rfl

/-- Settles O26: the hold of `P.START_HIGH` at its beginning, where `L.WRITE` may refuse, and inside it. -/
theorem startHighHoldsThenReleases : Obligations.StartHighHoldsThenReleases := by
  unfold Obligations.StartHighHoldsThenReleases
  refine ⟨fun s hout hm hpos => ?_, fun s hout hm hzero => ?_, fun s hout hm => exec_pStartHigh_refused hout hm,
    fun s hin hlt => ?_, fun s hin hle => ?_⟩
  · rw [exec_pStartHigh_outside hout hm, hold_of_sinceS_lt (by simpa [beginHighHold] using hpos)]
    rfl
  · rw [exec_pStartHigh_outside hout hm, hold_of_le_sinceS (by simp [beginHighHold, hzero])]
    rfl
  · rw [exec_pStartHigh_inside hin, hold_of_sinceS_lt hlt]
  · rw [exec_pStartHigh_inside hin, hold_of_le_sinceS hle]
    rfl

/-! ## Guarded waits (R171) -/

/-- What a guarded wait does once the level stands in `sample`: leave, fail at `N = T_TIMEOUT_US`, or go on. -/
def afterSample (level : Level) (e : ErrorKind) (exit : State → Result) (x : State) : Result :=
  if x.sample = level then
    if x.nReg.toNat = x.params.timeoutUs then .next (failureExit e x) else .next x
  else exit x

/-- The state of a guarded wait that has just taken its first sample. -/
def firstSample (p : Phase) (s : State) : State := { beginWait p s with sample := s.sensorAt 0 }

/-- The state of a guarded wait that has just taken one more sample. -/
def nextSample (s : State) : State := { countPoll s with sample := s.sensorAt 0 }

section GuardedWait
variable {s x : State} {p : Phase} {l : Level} {e : ErrorKind} {exit : State → Result}

theorem afterSample_passed (h : x.sample ≠ l) : afterSample l e exit x = exit x :=
  if_neg h

theorem afterSample_failed (h : x.sample = l) (hn : x.nReg.toNat = x.params.timeoutUs) :
    afterSample l e exit x = .next (failureExit e x) := by
  rw [afterSample, if_pos h, if_pos hn]

theorem afterSample_waits (h : x.sample = l) (hn : x.nReg.toNat ≠ x.params.timeoutUs) :
    afterSample l e exit x = .next x := by
  rw [afterSample, if_pos h, if_neg hn]

theorem pollLine_of_input (hm : s.mode = .input) :
    pollLine l e exit s = afterSample l e exit { s with sample := s.sensorAt 0 } := by
  rw [pollLine, lineRead_of_input hm]
  rfl

theorem pollLine_of_output (hm : s.mode = .output) : pollLine l e exit s = .refused .lineReadInOutputMode := by
  rw [pollLine, lineRead_of_output hm]
  rfl

theorem waitWhile_first (hout : s.inside p = false) (hm : s.mode = .input) :
    waitWhile p l e exit s = afterSample l e exit (firstSample p s) := by
  rw [waitWhile, hout, if_neg Bool.false_ne_true, pollLine_of_input (s := beginWait p s) hm]
  rfl

theorem waitWhile_of_inside (hin : s.inside p = true) :
    waitWhile p l e exit s = hold s.nextPollUs (fun s => pollLine l e exit (countPoll s)) s := by
  rw [waitWhile, if_pos hin]

theorem waitWhile_due (hin : s.inside p = true) (hdue : s.nextPollUs ≤ s.sinceS) (hm : s.mode = .input) :
    waitWhile p l e exit s = afterSample l e exit (nextSample s) := by
  rw [waitWhile_of_inside hin, hold_of_le_sinceS hdue, pollLine_of_input (s := countPoll s) hm]
  rfl

theorem waitWhile_notDue (hin : s.inside p = true) (hlt : s.sinceS < s.nextPollUs) :
    waitWhile p l e exit s = .next s := by
  rw [waitWhile_of_inside hin, hold_of_sinceS_lt hlt]

/-- A sample that is due in Output mode refuses the block (log 10). -/
theorem waitWhile_refused (hm : s.mode = .output) (hdue : s.inside p = false ∨ s.nextPollUs ≤ s.sinceS) :
    waitWhile p l e exit s = .refused .lineReadInOutputMode := by
  cases hin : s.inside p with
  | false => rw [waitWhile, hin, if_neg Bool.false_ne_true, pollLine_of_output (s := beginWait p s) hm]
  | true =>
    have hle : s.nextPollUs ≤ s.sinceS := hdue.resolve_left (by simp [hin])
    rw [waitWhile_of_inside hin, hold_of_le_sinceS hle, pollLine_of_output (s := countPoll s) hm]

/-- A wait that can poll at all goes on after a first sample at its level. -/
theorem waitWhile_first_waits (hout : s.inside p = false) (hm : s.mode = .input) (hl : s.sensorAt 0 = l)
    (hpos : 0 < s.params.timeoutUs) : waitWhile p l e exit s = .next (firstSample p s) := by
  rw [waitWhile_first hout hm, afterSample_waits (x := firstSample p s) hl (Nat.ne_of_lt hpos)]

/-- The failure exit of a wait whose line mode is Input already (R247). -/
theorem failureExit_of_input (hm : s.mode = .input) :
    failureExit e s =
      { s with err := e, okFlag := false, doneFlag := true, owned := false, phase := .idle, begun := false } := by
  simp [failureExit, gotoPhase, setMode, releaseLine, recordFailure, hm]

end GuardedWait

theorem exec_plainWait {i : Instr} {p q : Phase} {l : Level} {e : ErrorKind} (hrow : (i, p, l, e, q) ∈ plainWaits)
    (s : State) : exec i s = waitWhile p l e (fun s => .next (gotoPhase q s)) s := by
  simp only [plainWaits, List.mem_cons, Prod.mk.injEq, List.not_mem_nil, or_false] at hrow
  rcases hrow with ⟨rfl, rfl, rfl, rfl, rfl⟩ | ⟨rfl, rfl, rfl, rfl, rfl⟩ | ⟨rfl, rfl, rfl, rfl, rfl⟩ |
    ⟨rfl, rfl, rfl, rfl, rfl⟩ <;> rfl

/-- Settles O27: the sample of the wait's beginning or of its turn leaves it. -/
theorem plainWaitPassesWhenLineLeavesLevel : Obligations.PlainWaitPassesWhenLineLeavesLevel := by
  unfold Obligations.PlainWaitPassesWhenLineLeavesLevel
  rintro ⟨i, p, l, e, q⟩ hrow s hm hl
  refine ⟨fun hout => ?_, fun hin hdue => ?_⟩
  · rw [exec_plainWait hrow, waitWhile_first hout hm, afterSample_passed (x := firstSample p s) hl]
    rfl
  · rw [exec_plainWait hrow, waitWhile_due hin hdue hm, afterSample_passed (x := nextSample s) hl]
    rfl

/-- Settles O28: the other cases of the same waits. -/
theorem plainWaitPollsAndTimesOut : Obligations.PlainWaitPollsAndTimesOut := by
  unfold Obligations.PlainWaitPollsAndTimesOut
  rintro ⟨i, p, l, e, q⟩ hrow s
  simp only [exec_plainWait hrow]
  refine ⟨fun hin hlt => waitWhile_notDue hin hlt, fun hm hl hout hpos => waitWhile_first_waits hout hm hl hpos,
    fun hm hl hin hdue hn => ?_, fun hm hl hin hdue hn => ?_, fun hm hdue => waitWhile_refused hm hdue⟩
  · rw [waitWhile_due hin hdue hm, afterSample_waits (x := nextSample s) hl hn]
    rfl
  · rw [waitWhile_due hin hdue hm, afterSample_failed (x := nextSample s) hl hn,
      failureExit_of_input (s := nextSample s) hm]
    rfl

theorem exec_pBitHigh (s : State) : exec .pBitHigh s = waitWhile .bitHigh .high .bitTimeout nextBit s := rfl

/-- The count of a bit of the frame does not wrap. -/
theorem toNat_bitidx_succ {s : State} (h : s.bitidx.toNat < 40) : (s.bitidx + 1).toNat = s.bitidx.toNat + 1 := by
  bv_omega

/-- After the trailing wait of one of the 40 bits: the bit counted, and the next one, or `P.VALIDATE` after the last
(R181). -/
theorem nextBit_eq {s : State} (h : s.bitidx.toNat < 40) :
    nextBit s = .next
      (gotoPhase (if s.bitidx.toNat = 39 then .validate else .bitLow) { s with bitidx := s.bitidx + 1 }) := by
  have hphase : (if (s.bitidx + 1).toNat < 40 then Phase.bitLow else .validate) =
      if s.bitidx.toNat = 39 then .validate else .bitLow := by
    rw [toNat_bitidx_succ h]
    by_cases hlast : s.bitidx.toNat = 39
    · rw [if_pos hlast, if_neg (by omega)]
    · rw [if_neg hlast, if_pos (by omega)]
  rw [← hphase]
  rfl

/-- Settles O30: the passing side of `P.BIT_HIGH`. -/
theorem bitHighCountsBitWhenLineIsLow : Obligations.BitHighCountsBitWhenLineIsLow := by
  unfold Obligations.BitHighCountsBitWhenLineIsLow
  intro s hm hl hbit
  have hne : s.sensorAt 0 ≠ .high := by simp [hl]
  refine ⟨fun hout => ?_, fun hin hdue => ?_⟩
  · rw [exec_pBitHigh, waitWhile_first hout hm, afterSample_passed hne, nextBit_eq (s := firstSample .bitHigh s) hbit,
      ← hl]
    rfl
  · rw [exec_pBitHigh, waitWhile_due hin hdue hm, afterSample_passed hne, nextBit_eq (s := nextSample s) hbit, ← hl]
    rfl

/-- Settles O31: the other cases of `P.BIT_HIGH`. -/
theorem bitHighPollsAndTimesOut : Obligations.BitHighPollsAndTimesOut := by
  unfold Obligations.BitHighPollsAndTimesOut
  intro s
  simp only [exec_pBitHigh]
  refine ⟨fun hin hlt => waitWhile_notDue hin hlt, fun hm hl hout hpos => ?_,
    fun hm hl hin hdue hn => ?_, fun hm hl hin hdue hn => ?_, fun hm hdue => waitWhile_refused hm hdue⟩
  · rw [waitWhile_first_waits hout hm hl hpos, ← hl]
    rfl
  · rw [waitWhile_due hin hdue hm, afterSample_waits (x := nextSample s) hl hn, ← hl]
    rfl
  · rw [waitWhile_due hin hdue hm, afterSample_failed (x := nextSample s) hl hn,
      failureExit_of_input (s := nextSample s) hm, ← hl]
    rfl

end Sys2Proof.Machine
end

section
/-! What a phase writes into the frame buffer and reads out of it (42_decoder.md, R179 to R184): the shift of one bit,
the one store of `P.BIT_DELAY`, and the checks of `P.VALIDATE`. -/

namespace Sys2Proof.Machine

/-! ## The shift (R180) -/

/-- Shifting a bit in doubles the byte and adds the bit, modulo 256. -/
theorem toNat_shiftIn (b : Byte) (bit : BitVec 1) : (shiftIn b bit).toNat = (b.toNat * 2 + bit.toNat) % 256 := by
  have hdisjoint : (b <<< 1) &&& bit.zeroExtend 8 = 0#8 := by
    ext i hi
    cases i with
    | zero => simp
    | succ i => simp [BitVec.getLsbD_of_ge]
  rw [shiftIn, ← BitVec.add_eq_or_of_and_eq_zero _ _ hdisjoint]
  simp [Nat.shiftLeft_eq]

/-- The state after a bit is shifted into its byte. -/
def storeBit (bit : BitVec 1) (s : State) : State :=
  { s with fb := s.fb.write s.frameAddress (shiftIn (s.frameByte s.frameAddress) bit) }

theorem shiftBit_of_lt {s : State} (bit : BitVec 1) (h : s.bitidx.toNat < 40) :
    shiftBit bit s = .next (storeBit bit s) :=
  storeFrameByte_of_lt (Nat.div_lt_of_lt_mul h)

theorem wf_storeBit {s : State} (hwf : s.fb.wf = true) (bit : BitVec 1) (h : s.bitidx.toNat < 40) :
    (storeBit bit s).fb.wf = true :=
  Memory.wf_write hwf (Nat.div_lt_of_lt_mul h)

/-- The frame buffer after a shift, read at the byte of the bit. -/
theorem toNat_frameByte_storeBit {s : State} (hwf : s.fb.wf = true) (bit : BitVec 1) :
    ((storeBit bit s).frameByte s.frameAddress).toNat = ((s.frameByte s.frameAddress).toNat * 2 + bit.toNat) % 256 := by
  rw [storeBit, frameByte_write hwf, if_pos rfl, toNat_shiftIn]

/-- The frame buffer after a shift, read at any other byte. -/
theorem frameByte_storeBit_of_ne {s : State} (hwf : s.fb.wf = true) (bit : BitVec 1) {a : Nat}
    (ha : a ≠ s.frameAddress) : (storeBit bit s).frameByte a = s.frameByte a := by
  rw [storeBit, frameByte_write hwf, if_neg ha]

/-- Settles O35: the store of one byte, read back. -/
theorem shiftWritesOneFrameByte : Obligations.ShiftWritesOneFrameByte := by
  unfold Obligations.ShiftWritesOneFrameByte
  intro s b hwf hbit
  exact ⟨storeBit b s, shiftBit_of_lt b hbit, rfl, wf_storeBit hwf b hbit, toNat_frameByte_storeBit hwf b,
    fun j hj => frameByte_storeBit_of_ne hwf b hj⟩

/-! ## The sample of a bit (R179) -/

/-- The state after the one sample of a bit: stored in its byte, control at `P.BIT_HIGH`. -/
def bitSampled (s : State) : State :=
  gotoPhase .bitHigh { storeBit (Level.bit (s.sensorAt 0)) s with sample := s.sensorAt 0 }

theorem sampleBit_of_input {s : State} (hm : s.mode = .input) (hbit : s.bitidx.toNat < 40) :
    sampleBit s = .next (bitSampled s) := by
  rw [sampleBit, lineRead_of_input hm, andThen_next, shiftBit_of_lt (s := { s with sample := s.sensorLevel }) _ hbit]
  rfl

theorem sampleBit_of_output {s : State} (hm : s.mode = .output) : sampleBit s = .refused .lineReadInOutputMode := by
  rw [sampleBit, lineRead_of_output hm]
  rfl

theorem exec_pBitDelay (s : State) : exec .pBitDelay s = delayIn .bitDelay s.params.bitSampleUs sampleBit s := rfl

/-- `P.BIT_DELAY` when its delay is over, in Input mode. -/
theorem exec_pBitDelay_samples {s : State} (hin : s.inside .bitDelay = true) (hle : s.params.bitSampleUs ≤ s.sinceS)
    (hm : s.mode = .input) (hbit : s.bitidx.toNat < 40) : exec .pBitDelay s = .next (bitSampled s) := by
  rw [exec_pBitDelay, delayIn_of_inside hin, hold_of_le_sinceS hle, sampleBit_of_input hm hbit]

theorem toNat_level_bit (l : Level) : (Level.bit l).toNat = if l = .high then 1 else 0 := by
  cases l <;> rfl

theorem shiftIn_level_bit (b : Byte) (l : Level) :
    shiftIn b (Level.bit l) = (b <<< 1) ||| (if l = .high then 1 else 0) := by
  cases l <;> rfl

/-- Settles O29: the delay of `P.BIT_DELAY` at its beginning, inside it and after it. -/
theorem bitDelaySamplesOnceAndShifts : Obligations.BitDelaySamplesOnceAndShifts := by
  unfold Obligations.BitDelaySamplesOnceAndShifts
  refine ⟨fun s hout hpos => ?_, fun s hin hlt => ?_, fun s hin hle hm hbit => ?_, fun s hin hle hm => ?_⟩
  · rw [exec_pBitDelay, delayIn_begins hout hpos]
    rfl
  · rw [exec_pBitDelay, delayIn_of_inside hin, hold_of_sinceS_lt hlt]
  · rw [exec_pBitDelay_samples hin hle hm hbit, ← shiftIn_level_bit]
    rfl
  · rw [exec_pBitDelay, delayIn_of_inside hin, hold_of_le_sinceS hle, sampleBit_of_output hm]

/-- Settles O36: the store of `P.BIT_DELAY`, read byte by byte. -/
theorem bitDelayStoresAtItsBytesAddressAlone : Obligations.BitDelayStoresAtItsBytesAddressAlone := by
  unfold Obligations.BitDelayStoresAtItsBytesAddressAlone
  intro s hin hle hm hbit hwf
  have hbyte := toNat_frameByte_storeBit hwf (Level.bit (s.sensorAt 0))
  rw [toNat_level_bit] at hbyte
  exact ⟨bitSampled s, exec_pBitDelay_samples hin hle hm hbit, wf_storeBit hwf _ hbit, hbyte,
    fun a ha => frameByte_storeBit_of_ne hwf _ ha⟩

/-! ## Validation (R182 to R184) -/

theorem exec_pValidate (s : State) :
    exec .pValidate s =
      if s.checksum = (s.frameByte 4).toNat then
        if s.outOfRange then .next (failureExit .rangeError s) else .next (successExit s)
      else .next (failureExit .checksumError s) := rfl

theorem exec_pValidate_delivers {s : State} (hsum : s.checksum = (s.frameByte 4).toNat)
    (hrange : s.outOfRange = false) : exec .pValidate s = .next (successExit s) := by
  rw [exec_pValidate, if_pos hsum, hrange]
  rfl

/-- Settles O32: both checks pass. -/
theorem validateDeliversGoodFrame : Obligations.ValidateDeliversGoodFrame := by
  unfold Obligations.ValidateDeliversGoodFrame
  intro s hsum hprimary hsecondary
  exact exec_pValidate_delivers hsum (State.outOfRange_eq_false.mpr ⟨hprimary, hsecondary⟩)

/-- Settles O33: the checksum decides first, the range on a matching checksum. -/
theorem validateChecksChecksumBeforeRange : Obligations.ValidateChecksChecksumBeforeRange := by
  unfold Obligations.ValidateChecksChecksumBeforeRange
  refine fun s => ⟨fun hsum => ?_, fun hsum hrange => ?_⟩
  · rw [exec_pValidate, if_neg (by exact hsum)]
    rfl
  · have hout : s.outOfRange = true := by simpa [State.outOfRange] using hrange
    rw [exec_pValidate, if_pos (by exact hsum), if_pos hout]
    rfl

end Sys2Proof.Machine
end

section
/-! The phases of a transaction in time (R136, R171, R175, R294): how long the hold, the delay and the guarded wait of a
phase last, whatever the host does, and the state in which control passes on; with it the two courses of the wait for
the response. -/

namespace Sys2Proof.Machine

/-! ## Parameters with which a transaction can be timed -/

/-- The premises on the parameters that the statements about whole transactions make (R6, R7, R8, R134). -/
structure TimedParams (p : Params) : Prop where
  legal : p.legal = true
  documented : p.documented = true
  holdsEnd : p.holdsEnd = true

section Timed
variable {p : Params}

theorem TimedParams.constants (h : TimedParams p) :
    p.timeoutUs = 100 ∧ p.pollUs = 1 ∧ p.bitSampleUs = 40 ∧ p.primaryMax = 100 ∧ p.secondaryMax = 85 := by
  simpa [Params.documented, and_assoc] using h.documented

theorem TimedParams.ranges (h : TimedParams p) :
    0 < p.ticksPerUs ∧ 18000 ≤ p.startLowUs ∧ 20 ≤ p.startHighUs ∧ p.startHighUs ≤ 40 := by
  have hlegal := h.legal
  simp only [Params.legal, Params.ticksLegal, Params.startLowLegal, Params.startHighLegal, Bool.and_eq_true,
    decide_eq_true_eq] at hlegal
  omega

theorem TimedParams.ticks_pos (h : TimedParams p) : 0 < p.ticksPerUs := h.ranges.1

/-- The counter can time every wait up to the longest hold (R134). -/
theorem TimedParams.us_lt_period (h : TimedParams p) {n : Nat} (hn : n ≤ p.startLowUs) : p.us n < 2 ^ 32 := by
  have hhold : p.startLowUs ≤ (2 ^ 32 - 1) / p.ticksPerUs := of_decide_eq_true h.holdsEnd
  exact Nat.lt_of_le_sub_one (by decide) ((Nat.le_div_iff_mul_le h.ticks_pos).mp (Nat.le_trans hn hhold))

theorem TimedParams.us_strictMono (h : TimedParams p) {m n : Nat} (hlt : m < n) : p.us m < p.us n :=
  Nat.mul_lt_mul_of_pos_right hlt h.ticks_pos

end Timed

theorem us_add (p : Params) (m n : Nat) : p.us (m + n) = p.us m + p.us n :=
  Nat.add_mul m n p.ticksPerUs

theorem us_mono (p : Params) {m n : Nat} (h : m ≤ n) : p.us m ≤ p.us n :=
  Nat.mul_le_mul_right p.ticksPerUs h

@[simp] theorem us_zero (p : Params) : p.us 0 = 0 :=
  Nat.zero_mul _

/-! ## Runs that last -/

theorem MachineInv.of_reaches {s t : State} {k : Nat} (h : MachineInv s) (hrun : Reaches s k t) : MachineInv t := by
  induction k generalizing s with
  | zero =>
    cases hrun
    exact h
  | succ k ih =>
    obtain ⟨u, hstep, hrest⟩ := hrun.uncons
    exact ih (stepKeepsMachineInv s u h hstep) hrest

/-- A run from `s` to `t` lasts `i` ticks: time and the sensor have moved by them, the parameters stay, the reset pin is
at rest and no word waits to be executed. -/
structure Elapses (i : Nat) (s t : State) : Prop where
  run : ∃ k, Reaches s k t
  time : t.time = s.time + i
  sensor : ∀ n, t.sensorAt n = s.sensorAt (i + n)
  params : t.params = s.params
  rst : t.rst = []
  issue : t.issue = none

theorem Elapses.refl {s : State} (hr : s.rst = []) (hi : s.issue = none) : Elapses 0 s s :=
  ⟨⟨0, .zero s⟩, rfl, fun n => by rw [Nat.zero_add], rfl, hr, hi⟩

theorem Elapses.trans {i j : Nat} {s t u : State} (h : Elapses i s t) (h' : Elapses j t u) : Elapses (i + j) s u where
  run := by
    obtain ⟨k, hk⟩ := h.run
    obtain ⟨l, hl⟩ := h'.run
    exact ⟨k + l, hk.append hl⟩
  time := by rw [h'.time, h.time, Nat.add_assoc]
  sensor n := by rw [h'.sensor, h.sensor, Nat.add_assoc]
  params := h'.params.trans h.params
  rst := h'.rst
  issue := h'.issue

theorem Elapses.machineInv {i : Nat} {s t : State} (h : Elapses i s t) (hs : MachineInv s) : MachineInv t := by
  obtain ⟨k, hk⟩ := h.run
  exact hs.of_reaches hk

/-- The present level, seen from the run's beginning. -/
theorem Elapses.sensor_now {i : Nat} {s t : State} (h : Elapses i s t) : t.sensorAt 0 = s.sensorAt i :=
  h.sensor 0

/-! ### A step of the sequencer takes no time -/

/-- `t` stands at the same instant as `s`, in the same environment. -/
structure SameInstant (s t : State) : Prop where
  time : t.time = s.time
  sensor : t.sensor = s.sensor
  params : t.params = s.params
  rst : t.rst = s.rst
  issue : t.issue = s.issue

theorem SameInstant.refl (s : State) : SameInstant s s := ⟨rfl, rfl, rfl, rfl, rfl⟩

theorem HoldState.sameInstant {p : Phase} {s x : State} (hx : HoldState p s x) : SameInstant s x := by
  cases hx <;> exact { SameInstant.refl s with }

theorem HighHoldState.sameInstant {s x : State} (hx : HighHoldState s x) : SameInstant s x := by
  cases hx <;> exact { SameInstant.refl s with }

theorem SampleState.sameInstant {p : Phase} {s x : State} (hx : SampleState p s x) : SameInstant s x := by
  cases hx <;> exact { SameInstant.refl s with }

theorem PhaseOutcome.sameInstant {p : Phase} {s t : State} (ho : PhaseOutcome s p t) : SameInstant s t := by
  cases ho with
  | lowHeld hx | lowEnded hx | bitHeld hx | bitStored hx => exact { hx.sameInstant with }
  | highHeld hx | highEnded hx => exact { hx.sameInstant with }
  | waitGoesOn _ hx | waitFailed _ _ hx | waitPassed _ hx | bitCompleted hx => exact { hx.sameInstant with }
  | notDue | idles | frameRejected | frameDelivered | delayHeld | delayEnded => exact { SameInstant.refl s with }

/-- A run goes on with an enabled step of its phase, in the same instant (R13). -/
theorem Elapses.phase_step {i : Nat} {p : Phase} {s t u : State} (h : Elapses i s t) (hp : t.phase = p)
    (he : t.enabled = true) (hx : exec p.instr t = .next u) : Elapses i s u := by
  have hstep : step t = .next u := (step_of_phase hp (inReset_of_rst_nil h.rst) h.issue he).trans hx
  have hsame := (phaseOutcome_of_exec hx).sameInstant
  exact
    { run := by
        obtain ⟨k, hk⟩ := h.run
        exact ⟨k + 1, hk.append (Reaches.cons hstep (.zero u))⟩
      time := hsame.time.trans h.time
      sensor := fun n => by rw [State.sensorAt, hsame.sensor]; exact h.sensor n
      params := hsame.params.trans h.params
      rst := hsame.rst.trans h.rst
      issue := hsame.issue.trans h.issue }

/-! ### The instants of a timed wait -/

/-- How many microseconds after `S` the wait of a block is over: the time in the phase's row of `State.waitOver`. -/
def State.waitUs (s : State) : Nat :=
  match s.phase with
  | .startLow => s.params.startLowUs
  | .startHigh => s.params.startHighUs
  | .bitDelay => s.params.bitSampleUs
  | .hostDelay => s.dnReg.toNat
  | _ => s.nextPollUs

/-- The phases whose block waits for an instant. -/
def waitingPhases : List Phase :=
  [.startLow, .startHigh, .respWait, .respLow, .respHigh, .bitLow, .bitDelay, .bitHigh, .hostDelay]

theorem waitOver_eq_waited {s : State} (hp : s.phase ∈ waitingPhases) : s.waitOver = s.waited s.waitUs := by
  cases h : s.phase with
  | idle | validate => simp [h, waitingPhases] at hp
  | startLow | startHigh | respWait | respLow | respHigh | bitLow | bitDelay | bitHigh | hostDelay =>
    simp only [State.waitOver, State.waitUs, h]

theorem waitUs_of_guarded {s : State} (hp : s.phase ∈ guardedPhases) : s.waitUs = s.nextPollUs := by
  cases h : s.phase with
  | respWait | respLow | respHigh | bitLow | bitHigh => simp only [State.waitUs, h]
  | idle | startLow | startHigh | bitDelay | validate | hostDelay => simp [h, guardedPhases] at hp

theorem sensorAt_passTicks (i : Nat) (s : State) (n : Nat) : (passTicks i s).sensorAt n = s.sensorAt (i + n) := by
  induction i generalizing n with
  | zero => simp
  | succ i ih =>
    have hlater : (passTicks (i + 1) s).sensorAt n = (passTicks i s).sensorAt (n + 1) := by
      simp only [State.sensorAt, passTicks, Function.iterate_succ_apply', Wave.at_later]
    rw [hlater, ih, Nat.add_right_comm, Nat.add_assoc]

/-- `t` is `s` after `i` ticks of waiting, but for what the host may write meanwhile. -/
def WaitedFor (i : Nat) (s t : State) : Prop := HostTouched (passTicks i s) t

theorem cnt_sub_sReg_passTicks {s : State} {e : Nat} (h : s.cnt - s.sReg = BitVec.ofNat 32 e) (i : Nat) :
    (passTicks i s).cnt - (passTicks i s).sReg = BitVec.ofNat 32 (e + i) := by
  change s.cnt + BitVec.ofNat 32 i - s.sReg = _
  rw [BitVec.ofNat_add, ← h]
  bv_omega

/-- A wait begun `e` ticks ago goes on until its time is over, and is over then (R13, R136). -/
theorem wait_elapses {s : State} {e : Nat} (hp : s.phase ∈ waitingPhases) (hb : s.begun = true) (hi : s.issue = none)
    (hr : s.rst = []) (hpos : 0 < s.params.ticksPerUs) (hsince : s.cnt - s.sReg = BitVec.ofNat 32 e)
    (hle : e ≤ s.params.us s.waitUs) (hrange : s.params.us s.waitUs < 2 ^ 32) :
    ∃ t, Elapses (s.params.us s.waitUs - e) s t ∧ WaitedFor (s.params.us s.waitUs - e) s t ∧ t.enabled = true ∧
      s.waitUs ≤ t.sinceS := by
  have hover : ∀ i, i ≤ s.params.us s.waitUs - e →
      ((passTicks i s).waitOver = true ↔ s.params.us s.waitUs ≤ e + i) := fun i hi => by
    rw [show (passTicks i s).waitOver = (passTicks i s).waited s.waitUs from waitOver_eq_waited hp,
      waited_iff_us_le (s := passTicks i s) hpos, cnt_sub_sReg_passTicks hsince, BitVec.toNat_ofNat,
      Nat.mod_eq_of_lt (by omega)]
    rfl
  have hbusy : s.phase ≠ .idle := fun h => by simp [h, waitingPhases] at hp
  obtain ⟨t, hrun, ht, hit⟩ := wait_lasts hbusy hb hi hr (s.params.us s.waitUs - e) fun i hlt => by
    rw [← Bool.not_eq_true, hover i (Nat.le_of_lt hlt)]
    omega
  have hend : (passTicks (s.params.us s.waitUs - e) s).waitOver = true := (hover _ (Nat.le_refl _)).mpr (by omega)
  have hwaited := (waitOver_eq_waited (s := passTicks (s.params.us s.waitUs - e) s) hp).symm.trans hend
  have hsensor := sensorAt_passTicks (s.params.us s.waitUs - e) s
  obtain ⟨k, hk, -⟩ := StepIn.run hrun
  refine ⟨t, ?_, ht, ?_, ?_⟩
  · cases ht
    exact ⟨⟨k, hk⟩, rfl, hsensor, rfl, hr, hit⟩
  · rw [ht.enabled_eq, State.enabled, hend, Bool.or_true]
  · cases ht
    exact waited_iff_le_sinceS.mp hwaited

/-! ## Blocks that begin -/

/-- Control stands at the beginning of the block of `p`, in a machine whose transactions can be timed and that is not
reset. -/
structure BlockStart (p : Phase) (s : State) : Prop where
  inv : MachineInv s
  phase : s.phase = p
  begun : s.begun = false
  issue : s.issue = none
  rst : s.rst = []
  timed : TimedParams s.params

section BlockStart
variable {p q : Phase} {s t x : State}

theorem BlockStart.enabled (h : BlockStart p s) : s.enabled = true := by
  simp [State.enabled, h.begun]

theorem BlockStart.outside (h : BlockStart p s) (q : Phase) : s.inside q = false := by
  simp [State.inside, h.begun]

theorem BlockStart.block (h : BlockStart p s) : BlockInv s p :=
  h.phase ▸ h.inv.blockInv

/-- The block's first step. -/
theorem BlockStart.first_step (h : BlockStart p s) (hx : exec p.instr s = .next x) : Elapses 0 s x :=
  (Elapses.refl h.rst h.issue).phase_step h.phase h.enabled hx

/-- A run that ends where control has just passed on ends at the beginning of a block. -/
theorem BlockStart.after {i : Nat} (h : BlockStart p s) (he : Elapses i s t) (hp : t.phase = q) (hb : t.begun = false) :
    BlockStart q t :=
  ⟨he.machineInv h.inv, hp, hb, he.issue, he.rst, he.params ▸ h.timed⟩

/-- A block whose first step takes the instant and waits: the wait lasts its time. -/
theorem BlockStart.holds (h : BlockStart p s) (hp : p ∈ waitingPhases) (hx : exec p.instr s = .next x)
    (hin : x.inside p = true) (hs : x.sReg = x.cnt) {n : Nat} (hn : x.waitUs = n) (hle : n ≤ s.params.startLowUs) :
    ∃ t, Elapses (s.params.us n) s t ∧ WaitedFor (s.params.us n) x t ∧ t.enabled = true ∧ n ≤ t.sinceS := by
  subst hn
  obtain ⟨hb, hphase⟩ := State.inside_iff.mp hin
  have hsx := h.first_step hx
  rw [← hsx.params] at hle ⊢
  have htimed : TimedParams x.params := hsx.params ▸ h.timed
  obtain ⟨t, hxt, hwait, hend⟩ := wait_elapses (e := 0) (hphase ▸ hp) hb hsx.issue hsx.rst htimed.ticks_pos
    (by simp [hs]) (Nat.zero_le _) (htimed.us_lt_period hle)
  exact ⟨t, Nat.zero_add (x.params.us x.waitUs) ▸ hsx.trans hxt, hwait, hend⟩

end BlockStart
/-! ## What a wait leaves alone -/

/-- `t` has the frame buffer, the bit counter and the Reading of `s`. -/
structure FrameKept (s t : State) : Prop where
  fb : t.fb = s.fb
  bitidx : t.bitidx = s.bitidx
  reading : t.reading = s.reading

theorem FrameKept.refl (s : State) : FrameKept s s := ⟨rfl, rfl, rfl⟩

theorem FrameKept.trans {s t u : State} (h : FrameKept s t) (h' : FrameKept t u) : FrameKept s u :=
  ⟨h'.fb.trans h.fb, h'.bitidx.trans h.bitidx, h'.reading.trans h.reading⟩

theorem FrameKept.frameByte_eq {s t : State} (h : FrameKept s t) (a : Nat) : t.frameByte a = s.frameByte a := by
  rw [State.frameByte, h.fb]
  rfl

/-- Equal frames stay equal under the same shift. -/
theorem FrameKept.storeBit_congr {s t : State} (h : FrameKept s t) (bit : BitVec 1) :
    FrameKept (storeBit bit s) (storeBit bit t) where
  fb := by
    have haddress : t.frameAddress = s.frameAddress := by rw [State.frameAddress, h.bitidx]; rfl
    simp only [storeBit, h.fb, haddress, h.frameByte_eq]
  bitidx := h.bitidx
  reading := h.reading

section WaitedFor
variable {i : Nat} {s t : State}

theorem WaitedFor.frameKept (h : WaitedFor i s t) : FrameKept s t := by
  cases h
  exact ⟨rfl, rfl, rfl⟩

theorem WaitedFor.inside_eq (h : WaitedFor i s t) (p : Phase) : t.inside p = s.inside p := by
  cases h
  rfl

theorem WaitedFor.nReg_eq (h : WaitedFor i s t) : t.nReg = s.nReg := by
  cases h
  rfl

theorem WaitedFor.since (h : WaitedFor i s t) {e : Nat} (hs : s.cnt - s.sReg = BitVec.ofNat 32 e) :
    t.cnt - t.sReg = BitVec.ofNat 32 (e + i) := by
  cases h
  exact cnt_sub_sReg_passTicks hs i

end WaitedFor

/-! ## The holds of the start signal and the delay of a bit -/

/-- `P.START_LOW` lasts `T_START_LOW_US` (R173). -/
theorem BlockStart.startLow_elapses {s : State} (h : BlockStart .startLow s) :
    ∃ t, Elapses (s.params.us s.params.startLowUs) s t ∧ BlockStart .startHigh t := by
  obtain ⟨-, hlow, -, -⟩ := h.timed.ranges
  have hbegins : exec .pStartLow s = .next (beginDelay .startLow s) := by
    rw [exec_pStartLow, delayIn_begins (h.outside _) (by omega)]
  obtain ⟨t, hst, hwait, henabled, hover⟩ := h.holds (n := s.params.startLowUs) (by decide) hbegins rfl rfl rfl
    (Nat.le_refl _)
  have hin : t.inside .startLow = true := hwait.inside_eq _
  have hends : exec .pStartLow t = .next (gotoPhase .startHigh t) := by
    rw [exec_pStartLow, delayIn_of_inside hin, hst.params, hold_of_le_sinceS hover]
  have hrun := hst.phase_step (p := .startLow) (State.inside_iff.mp hin).2 henabled hends
  exact ⟨_, hrun, h.after hrun rfl rfl⟩

/-- `P.START_HIGH` lasts `T_START_HIGH_US` (R174). -/
theorem BlockStart.startHigh_elapses {s : State} (h : BlockStart .startHigh s) :
    ∃ t, Elapses (s.params.us s.params.startHighUs) s t ∧ BlockStart .respWait t := by
  obtain ⟨-, hlow, hmin, hmax⟩ := h.timed.ranges
  obtain ⟨-, ⟨-, hmode⟩, -⟩ := h.block
  have hbegins : exec .pStartHigh s = .next (beginHighHold s) := by
    rw [exec_pStartHigh_outside (h.outside _) hmode,
      hold_of_sinceS_lt (by rw [beginHighHold, sinceS_beginDelay]; omega)]
  obtain ⟨t, hst, hwait, henabled, hover⟩ := h.holds (n := s.params.startHighUs) (by decide) hbegins rfl rfl rfl
    (by omega)
  have hin : t.inside .startHigh = true := hwait.inside_eq _
  have hends : exec .pStartHigh t = releaseToSensor t := by
    rw [exec_pStartHigh_inside hin, hst.params, hold_of_le_sinceS hover]
  have hrun := hst.phase_step (p := .startHigh) (State.inside_iff.mp hin).2 henabled hends
  exact ⟨_, hrun, h.after hrun rfl rfl⟩

/-- The start signal lasts as long as its two holds, and releases the line (R173, R174). -/
theorem BlockStart.start_elapses {s : State} (h : BlockStart .startLow s) :
    ∃ t, Elapses (s.params.us (s.params.startLowUs + s.params.startHighUs)) s t ∧ BlockStart .respWait t := by
  obtain ⟨u, hlow, hu⟩ := h.startLow_elapses
  obtain ⟨t, hhigh, ht⟩ := hu.startHigh_elapses
  rw [hlow.params] at hhigh
  exact ⟨t, us_add s.params _ _ ▸ hlow.trans hhigh, ht⟩

/-- `P.BIT_DELAY` lasts `T_BIT_SAMPLE_US`, and stores the level at its end (R179, R180). -/
theorem BlockStart.bitDelay_elapses {s : State} (h : BlockStart .bitDelay s) :
    ∃ t, Elapses (s.params.us 40) s t ∧ BlockStart .bitHigh t ∧
      FrameKept (storeBit (Level.bit (s.sensorAt (s.params.us 40))) s) t := by
  obtain ⟨-, hlow, -, -⟩ := h.timed.ranges
  obtain ⟨-, -, hsample, -⟩ := h.timed.constants
  obtain ⟨-, -, hopen⟩ := h.block
  have hbegins : exec .pBitDelay s = .next (beginDelay .bitDelay s) := by
    rw [exec_pBitDelay, delayIn_begins (h.outside _) (by omega)]
  obtain ⟨t, hst, hwait, henabled, hover⟩ := h.holds (n := 40) (by decide) hbegins rfl rfl hsample (by omega)
  have hin : t.inside .bitDelay = true := hwait.inside_eq _
  have hphase := (State.inside_iff.mp hin).2
  have hframe : FrameKept s t := { hwait.frameKept with }
  obtain ⟨-, hmode⟩ := (hst.machineInv h.inv).released (by rw [hphase]; decide)
  have hends : exec .pBitDelay t = .next (bitSampled t) :=
    exec_pBitDelay_samples hin (by rw [hst.params, hsample]; exact hover) hmode (hframe.bitidx ▸ hopen)
  have hrun := hst.phase_step (p := .bitDelay) hphase henabled hends
  have hstored := hframe.storeBit_congr (Level.bit (t.sensorAt 0))
  rw [hst.sensor_now] at hstored
  refine ⟨_, hrun, h.after hrun rfl rfl, hstored.trans ?_⟩
  rw [← hst.sensor_now]
  exact { FrameKept.refl _ with }

/-! ## Guarded waits (R171) -/

/-- After `n` poll delays of the guarded wait begun in `s` the machine stands in `u`, about to take its sample, which
leaves it in `x`. -/
structure SampleTaken (p : Phase) (l : Level) (e : ErrorKind) (exit : State → Result) (n : Nat) (s u x : State) :
    Prop where
  elapsed : Elapses (s.params.us n) s u
  phase : u.phase = p
  enabled : u.enabled = true
  answer : exec p.instr u = afterSample l e exit x
  inside : x.inside p = true
  level : x.sample = s.sensorAt (s.params.us n)
  polls : x.nReg.toNat = n
  params : x.params = s.params
  since : x.cnt - x.sReg = BitVec.ofNat 32 (s.params.us n)
  frame : FrameKept s x

section GuardedRun
variable {p : Phase} {l : Level} {e : ErrorKind} {exit : State → Result} {s : State}

theorem guarded_waits (hp : p ∈ guardedPhases) : p ∈ waitingPhases := by
  revert p
  decide

theorem MachineInv.input_of_guarded (h : MachineInv s) (hp : s.phase ∈ guardedPhases) : s.mode = .input := by
  have hreleased : ∀ q ∈ guardedPhases, q ∈ releasedPhases := by decide
  exact (h.released (hreleased _ hp)).2

/-- The first sample, at the beginning. -/
theorem BlockStart.first_sample (h : BlockStart p s) (hp : p ∈ guardedPhases)
    (hexec : ∀ s, exec p.instr s = waitWhile p l e exit s) :
    SampleTaken p l e exit 0 s s (firstSample p s) where
  elapsed := by rw [us_zero]; exact .refl h.rst h.issue
  phase := h.phase
  enabled := h.enabled
  answer := by rw [hexec, waitWhile_first (h.outside p) (h.inv.input_of_guarded (h.phase ▸ hp))]
  inside := by simp [State.inside, firstSample, beginWait]
  level := by rw [us_zero]; rfl
  polls := rfl
  params := rfl
  since := by rw [us_zero]; exact BitVec.sub_self _
  frame := ⟨rfl, rfl, rfl⟩

/-- After a sample that found the line at its level, a poll delay goes by and the next sample is due. -/
theorem SampleTaken.poll_elapses {n : Nat} {u x : State} (h : BlockStart p s) (hp : p ∈ guardedPhases)
    (hs : SampleTaken p l e exit n s u x) (hl : s.sensorAt (s.params.us n) = l) (hn : n < 100) :
    ∃ v, Elapses (s.params.us (n + 1)) s v ∧ WaitedFor (s.params.us (n + 1) - s.params.us n) x v ∧
      v.enabled = true ∧ n + 1 ≤ v.sinceS := by
  obtain ⟨htimeout, hpoll, -⟩ := h.timed.constants
  obtain ⟨hpos, hlow, -, -⟩ := h.timed.ranges
  obtain ⟨hb, hphase⟩ := State.inside_iff.mp hs.inside
  have hstays : exec p.instr u = .next x := by
    rw [hs.answer, afterSample_waits (hs.level.trans hl) (by rw [hs.polls, hs.params, htimeout]; omega)]
  have hsx := hs.elapsed.phase_step hs.phase hs.enabled hstays
  have hus : x.waitUs = n + 1 := by
    rw [waitUs_of_guarded (hphase ▸ hp), State.nextPollUs, hs.polls, hs.params, hpoll, Nat.mul_one]
  have hle := us_mono s.params (Nat.le_succ n)
  obtain ⟨v, hxv, hwait, hend⟩ := wait_elapses (hphase ▸ guarded_waits hp) hb hsx.issue hsx.rst
    (hs.params ▸ hpos) hs.since (by rw [hus, hs.params]; exact hle)
    (by rw [hus, hs.params]; exact h.timed.us_lt_period (by omega))
  rw [hus, hs.params] at hxv hwait
  rw [hus] at hend
  have hsv := hsx.trans hxv
  rw [Nat.add_sub_cancel' hle] at hsv
  exact ⟨v, hsv, hwait, hend⟩

/-- One sample more, a poll delay after one that found the line at its level. -/
theorem SampleTaken.next {n : Nat} {u x : State} (h : BlockStart p s) (hp : p ∈ guardedPhases)
    (hexec : ∀ s, exec p.instr s = waitWhile p l e exit s) (hs : SampleTaken p l e exit n s u x)
    (hl : s.sensorAt (s.params.us n) = l) (hn : n < 100) : ∃ v y, SampleTaken p l e exit (n + 1) s v y := by
  obtain ⟨v, hsv, hwait, henabled, hover⟩ := hs.poll_elapses h hp hl hn
  obtain ⟨-, hpoll, -⟩ := h.timed.constants
  have hin : v.inside p = true := (hwait.inside_eq p).trans hs.inside
  have hphase := (State.inside_iff.mp hin).2
  have hmode := (hsv.machineInv h.inv).input_of_guarded (hphase ▸ hp)
  have hcount : v.nReg.toNat = n := by rw [hwait.nReg_eq, hs.polls]
  have hdue : v.nextPollUs = n + 1 := by rw [State.nextPollUs, hcount, hsv.params, hpoll, Nat.mul_one]
  have hsince := hwait.since hs.since
  rw [Nat.add_sub_cancel' (us_mono s.params (Nat.le_succ n))] at hsince
  exact ⟨v, nextSample v,
    { elapsed := hsv
      phase := hphase
      enabled := henabled
      answer := by rw [hexec, waitWhile_due hin (hdue.symm ▸ hover) hmode]
      inside := hin
      level := hsv.sensor_now
      polls := by
        change (v.nReg + 1).toNat = n + 1
        bv_omega
      params := hsv.params
      since := hsince
      frame := hs.frame.trans { hwait.frameKept with } }⟩

/-- A guarded wait samples the line every microsecond for as long as it finds its level (R171). -/
theorem BlockStart.samples (h : BlockStart p s) (hp : p ∈ guardedPhases)
    (hexec : ∀ s, exec p.instr s = waitWhile p l e exit s) (n : Nat) (hn : n ≤ 100)
    (hl : ∀ j, j < n → s.sensorAt (s.params.us j) = l) : ∃ u x, SampleTaken p l e exit n s u x := by
  induction n with
  | zero => exact ⟨_, _, h.first_sample hp hexec⟩
  | succ n ih =>
    obtain ⟨u, x, hs⟩ := ih (by omega) fun j hj => hl j (by omega)
    exact hs.next h hp hexec (hl n (Nat.lt_succ_self n)) (by omega)

/-- It is left in the instant of the first sample off its level. -/
theorem BlockStart.wait_passes (h : BlockStart p s) (hp : p ∈ guardedPhases)
    (hexec : ∀ s, exec p.instr s = waitWhile p l e exit s) {d : Nat} (hd : d ≤ 100)
    (hl : ∀ j, j < d → s.sensorAt (s.params.us j) = l) (hne : s.sensorAt (s.params.us d) ≠ l) :
    ∃ x, FrameKept s x ∧ ∀ t, exit x = .next t → Elapses (s.params.us d) s t := by
  obtain ⟨u, x, hs⟩ := h.samples hp hexec d hd hl
  refine ⟨x, hs.frame, fun t ht => hs.elapsed.phase_step hs.phase hs.enabled ?_⟩
  rw [hs.answer, afterSample_passed (fun hx => hne (hs.level.symm.trans hx)), ht]

/-- It fails in the instant of the 101st sample, if all find the line at its level (R171, R247). -/
theorem BlockStart.wait_fails (h : BlockStart p s) (hp : p ∈ guardedPhases)
    (hexec : ∀ s, exec p.instr s = waitWhile p l e exit s)
    (hl : ∀ j, j ≤ 100 → s.sensorAt (s.params.us j) = l) :
    ∃ x, FrameKept s x ∧ Elapses (s.params.us 100) s (failureExit e x) := by
  obtain ⟨htimeout, -⟩ := h.timed.constants
  obtain ⟨u, x, hs⟩ := h.samples hp hexec 100 (Nat.le_refl _) fun j hj => hl j (Nat.le_of_lt hj)
  refine ⟨x, hs.frame, hs.elapsed.phase_step hs.phase hs.enabled ?_⟩
  rw [hs.answer, afterSample_failed (hs.level.trans (hl 100 (Nat.le_refl _))) (by rw [hs.polls, hs.params, htimeout])]

end GuardedRun

/-! The rows of the waits that hand control on and do nothing else (R175 to R178). -/

theorem respWait_row : (Phase.respWait.instr, .respWait, .high, .noResponse, .respLow) ∈ plainWaits := by decide

theorem respLow_row : (Phase.respLow.instr, .respLow, .low, .responseTimeout, .respHigh) ∈ plainWaits := by decide

theorem respHigh_row : (Phase.respHigh.instr, .respHigh, .high, .responseTimeout, .bitLow) ∈ plainWaits := by decide

theorem bitLow_row : (Phase.bitLow.instr, .bitLow, .low, .bitTimeout, .bitDelay) ∈ plainWaits := by decide

/-- A wait that hands control on and does nothing else passes at its first sample off its level (R175 to R178). -/
theorem BlockStart.plainWait_passes {p q : Phase} {l : Level} {e : ErrorKind} {s : State}
    (hrow : (p.instr, p, l, e, q) ∈ plainWaits) (h : BlockStart p s) {d : Nat} (hd : d ≤ 100)
    (hl : ∀ j, j < d → s.sensorAt (s.params.us j) = l) (hne : s.sensorAt (s.params.us d) ≠ l) :
    ∃ t, Elapses (s.params.us d) s t ∧ BlockStart q t ∧ FrameKept s t := by
  obtain ⟨x, hframe, hpasses⟩ := h.wait_passes (guarded_of_plainWait hrow) (exec_plainWait hrow) hd hl hne
  have hrun := hpasses _ rfl
  exact ⟨_, hrun, h.after hrun rfl rfl, { hframe with }⟩

/-! ## The wait for the response (R175) -/

/-- Settles O53: the wait fails at its last sample, and its failure exit leaves the frame and the Reading. -/
theorem silentLineEndsInNoResponse : Obligations.SilentLineEndsInNoResponse := by
  unfold Obligations.SilentLineEndsInNoResponse
  intro s hinv hp hb hi hr hlegal hdoc hends hsilent
  have h : BlockStart .respWait s := ⟨hinv, hp, hb, hi, hr, hlegal, hdoc, hends⟩
  obtain ⟨-, -, hbit⟩ := h.block
  obtain ⟨x, hframe, hrun⟩ := h.wait_fails (by decide) (exec_plainWait respWait_row) hsilent
  obtain ⟨k, hk⟩ := hrun.run
  exact ⟨k, _, hk, rfl, rfl, rfl, rfl, hframe.bitidx.trans hbit, hframe.reading, hrun.time⟩

/-- Settles O54: the wait passes at its first Low sample, and during the transaction no result is out. -/
theorem responseIsSeenAtItsFirstLowSample : Obligations.ResponseIsSeenAtItsFirstLowSample := by
  unfold Obligations.ResponseIsSeenAtItsFirstLowSample
  intro s d hinv hp hb hi hr hlegal hdoc hends hd hhigh hlow
  have h : BlockStart .respWait s := ⟨hinv, hp, hb, hi, hr, hlegal, hdoc, hends⟩
  obtain ⟨t, hrun, ht, -⟩ := h.plainWait_passes respWait_row hd hhigh (by simp [hlow])
  obtain ⟨⟨-, hpending, -⟩, -⟩ := ht.block
  obtain ⟨k, hk⟩ := hrun.run
  exact ⟨k, t, hk, ht.phase, ht.begun, hpending, hrun.time⟩

/-! ## The end of a bit (R181) -/

/-- The block that follows a complete bit: that of the next bit, or `P.VALIDATE` after the 40th. -/
def nextBlock (s : State) : Phase := if s.bitidx.toNat < 40 then .bitLow else .validate

theorem nextBlock_of_lt {s : State} (h : s.bitidx.toNat < 40) : nextBlock s = .bitLow :=
  if_pos h

theorem nextBlock_of_eq {s : State} (h : s.bitidx.toNat = 40) : nextBlock s = .validate :=
  if_neg (by omega)

/-- When the handshake ends no bit is complete (R24). -/
theorem BlockStart.no_bit_after_handshake {s t : State} (h : BlockStart .respHigh s) (hframe : FrameKept s t) :
    t.bitidx.toNat = 0 := by
  obtain ⟨-, -, hbit⟩ := h.block
  rw [hframe.bitidx, hbit]
  rfl

/-- `P.BIT_HIGH` passes at its first Low sample, and the bit is counted. -/
theorem BlockStart.bitHigh_passes {s : State} (h : BlockStart .bitHigh s) {d : Nat} (hd : d ≤ 100)
    (hl : ∀ j, j < d → s.sensorAt (s.params.us j) = .high) (hne : s.sensorAt (s.params.us d) ≠ .high) :
    ∃ t, Elapses (s.params.us d) s t ∧ BlockStart (nextBlock t) t ∧ FrameKept (completeBit s) t := by
  obtain ⟨x, hframe, hpasses⟩ := h.wait_passes (by decide) exec_pBitHigh hd hl hne
  have hrun := hpasses _ rfl
  refine ⟨_, hrun, h.after hrun rfl rfl, { hframe with bitidx := ?_ }⟩
  rw [gotoPhase_bitidx, completeBit_bitidx, completeBit_bitidx, hframe.bitidx]

end Sys2Proof.Machine
end

section
/-! The bound on a transaction (42_decoder.md, R188, R294): each guarded wait is left or fails within 100 microseconds,
so each bit takes at most 240, and the whole transaction ends within its start holds and 9900 microseconds. -/

namespace Sys2Proof.Machine

/-! ## Ends within a time -/

/-- From `s` the transaction ends, in success or failure, within `n` microseconds. -/
def EndsWithin (n : Nat) (s : State) : Prop :=
  ∃ i t, i ≤ s.params.us n ∧ Elapses i s t ∧ t.phase = .idle ∧ t.doneFlag = true

/-- A part of known length, and then the rest. -/
theorem EndsWithin.after {m n : Nat} {s t : State} (h : Elapses (s.params.us m) s t) (ht : EndsWithin n t) :
    EndsWithin (m + n) s := by
  obtain ⟨i, u, hi, hrun, hend⟩ := ht
  rw [h.params] at hi
  exact ⟨_, u, by rw [us_add]; omega, h.trans hrun, hend⟩

theorem EndsWithin.mono {m n : Nat} {s : State} (h : EndsWithin m s) (hle : m ≤ n) : EndsWithin n s := by
  obtain ⟨i, t, hi, hend⟩ := h
  exact ⟨i, t, Nat.le_trans hi (us_mono _ hle), hend⟩

/-! ## One wait -/

/-- Of the samples up to the one numbered `n` either all find the line at the level, or there is a first that does
not. -/
theorem all_or_first_off (f : Nat → Level) (l : Level) (n : Nat) :
    (∀ j, j ≤ n → f j = l) ∨ ∃ d, d ≤ n ∧ (∀ j, j < d → f j = l) ∧ f d ≠ l := by
  by_cases h : ∃ d, f d ≠ l
  · by_cases hd : Nat.find h ≤ n
    · exact .inr ⟨Nat.find h, hd, fun j hj => not_not.mp (Nat.find_min h hj), Nat.find_spec h⟩
    · exact .inl fun j hj => not_not.mp (Nat.find_min h (by omega))
  · exact .inl fun j _ => not_not.mp fun hj => h ⟨j, hj⟩

section OneWait
variable {p q : Phase} {l : Level} {e : ErrorKind} {exit : State → Result} {s : State} {n : Nat}

/-- A guarded wait ends the transaction after 100 microseconds, or is left before (R171, R247). -/
theorem BlockStart.wait_within (h : BlockStart p s) (hp : p ∈ guardedPhases)
    (hexec : ∀ s, exec p.instr s = waitWhile p l e exit s)
    (hpasses : ∀ d, d ≤ 100 → (∀ j, j < d → s.sensorAt (s.params.us j) = l) →
      s.sensorAt (s.params.us d) ≠ l → EndsWithin (d + n) s) : EndsWithin (100 + n) s := by
  rcases all_or_first_off (fun j => s.sensorAt (s.params.us j)) l 100 with hall | ⟨d, hd, hl, hne⟩
  · obtain ⟨x, -, hrun⟩ := h.wait_fails hp hexec hall
    exact ⟨_, _, us_mono _ (Nat.le_add_right 100 n), hrun, rfl, rfl⟩
  · exact (hpasses d hd hl hne).mono (Nat.add_le_add_right hd n)

theorem BlockStart.plainWait_within (hrow : (p.instr, p, l, e, q) ∈ plainWaits) (h : BlockStart p s)
    (hrest : ∀ t, BlockStart q t → FrameKept s t → EndsWithin n t) : EndsWithin (100 + n) s :=
  h.wait_within (guarded_of_plainWait hrow) (exec_plainWait hrow) fun _ hd hl hne => by
    obtain ⟨t, hrun, ht, hframe⟩ := h.plainWait_passes hrow hd hl hne
    exact .after hrun (hrest t ht hframe)

theorem BlockStart.bitHigh_within (h : BlockStart .bitHigh s)
    (hrest : ∀ t, BlockStart (nextBlock t) t → FrameKept (completeBit s) t → EndsWithin n t) :
    EndsWithin (100 + n) s :=
  h.wait_within (by decide) exec_pBitHigh fun _ hd hl hne => by
    obtain ⟨t, hrun, ht, hframe⟩ := h.bitHigh_passes hd hl hne
    exact .after hrun (hrest t ht hframe)

end OneWait

/-! ## The bits and the end -/

/-- `P.VALIDATE` ends the transaction in its instant, in success or failure (R182 to R184). -/
theorem BlockStart.validate_ends {s : State} (h : BlockStart .validate s) : EndsWithin 0 s := by
  obtain ⟨t, hx, hidle, hdone⟩ : ∃ t, exec .pValidate s = .next t ∧ t.phase = .idle ∧ t.doneFlag = true := by
    rw [exec_pValidate]
    split
    · split <;> exact ⟨_, rfl, rfl, rfl⟩
    · exact ⟨_, rfl, rfl, rfl⟩
  exact ⟨0, t, Nat.zero_le _, h.first_step hx, hidle, hdone⟩

/-- With `r` bits to come, the transaction ends within 240 microseconds for each: two guarded waits and the delay. -/
theorem BlockStart.bits_within (r : Nat) {s : State} (h : BlockStart (nextBlock s) s) (hr : s.bitidx.toNat + r = 40) :
    EndsWithin (240 * r) s := by
  induction r generalizing s with
  | zero =>
    rw [nextBlock_of_eq hr] at h
    exact h.validate_ends
  | succ r ih =>
    rw [nextBlock_of_lt (by omega)] at h
    have hlast : ∀ u, BlockStart .bitHigh u → u.bitidx = s.bitidx → EndsWithin (100 + 240 * r) u := by
      intro u hu hidx
      refine hu.bitHigh_within fun v hv hframe => ih hv ?_
      rw [hframe.bitidx, completeBit_bitidx, hidx, toNat_bitidx_succ (by omega)]
      omega
    have hdelay : ∀ t, BlockStart .bitDelay t → FrameKept s t → EndsWithin (40 + (100 + 240 * r)) t := by
      intro t ht hst
      obtain ⟨u, hrun, hu, hframe⟩ := ht.bitDelay_elapses
      exact .after hrun (hlast u hu (hframe.bitidx.trans hst.bitidx))
    exact (h.plainWait_within bitLow_row hdelay).mono (by omega)

/-! ## The whole transaction -/

/-- From the end of the sensor's answer: the last guarded wait before the bits, and the 40 bits. -/
theorem BlockStart.respHigh_within {s : State} (h : BlockStart .respHigh s) : EndsWithin (100 + 240 * 40) s :=
  h.plainWait_within respHigh_row fun t ht hframe => by
    have hzero := h.no_bit_after_handshake hframe
    exact BlockStart.bits_within 40 (nextBlock_of_lt (s := t) (by omega) ▸ ht) (by omega)

/-- From the release of the line: three guarded waits and the 40 bits. -/
theorem BlockStart.respWait_within {s : State} (h : BlockStart .respWait s) :
    EndsWithin (100 + (100 + (100 + 240 * 40))) s :=
  h.plainWait_within respWait_row fun _ ht _ => ht.plainWait_within respLow_row fun _ hu _ => hu.respHigh_within

/-- Settles O55: the start signal lasts its time, and then the response has its bound. -/
theorem transactionEndsWithinBound : Obligations.TransactionEndsWithinBound := by
  unfold Obligations.TransactionEndsWithinBound
  intro s hinv hp hb hi hr hlegal hdoc hends
  have h : BlockStart .startLow s := ⟨hinv, hp, hb, hi, hr, hlegal, hdoc, hends⟩
  obtain ⟨u, hstart, hu⟩ := h.start_elapses
  obtain ⟨i, t, hle, hrun, hidle, hdone⟩ := EndsWithin.after hstart hu.respWait_within
  obtain ⟨k, hk⟩ := hrun.run
  refine ⟨k, t, hk, hidle, hdone, ?_⟩
  rw [hrun.time]
  exact Nat.add_le_add_left hle s.time

end Sys2Proof.Machine
end

section
/-! The nominal frame (30_encoding.md, R106; 42_decoder.md, R184): the sensor's waveform seen from the beginning of each
block, the receipt of one bit, of a byte and of the five bytes, and their delivery as the Reading. -/

namespace Sys2Proof.Machine

/-! ## Waveforms and the passing of time -/

/-- The levels `f` are those of the waveform `w`. -/
def Shows (f : Nat → Level) (w : Wave Level) : Prop := ∀ n, f n = Wave.at Config.freeSensor .high w n

theorem Wave.at_hold_of_lt {α : Type} (oracle : Nat → Nat → α) (rest v : α) {d n : Nat} (w : Wave α)
    (h : n < d) : Wave.at oracle rest (.hold v d :: w) n = v :=
  if_pos h

theorem Wave.at_hold_add {α : Type} (oracle : Nat → Nat → α) (rest v : α) (d n : Nat) (w : Wave α) :
    Wave.at oracle rest (.hold v d :: w) (d + n) = Wave.at oracle rest w n := by
  simp [Wave.at]

section Shows
variable {f : Nat → Level} {v v' : Level} {w : Wave Level} {i d d' : Nat}

theorem Shows.level (h : Shows f (.hold v d :: w)) (hi : i < d) : f i = v := by
  rw [h, Wave.at_hold_of_lt _ _ _ _ hi]

/-- When the first segment has gone by the rest is shown. -/
theorem Shows.drop (h : Shows f (.hold v d :: w)) : Shows (fun n => f (d + n)) w := fun n =>
  (h (d + n)).trans (Wave.at_hold_add _ _ _ _ _ _)

/-- Within the first segment what is left of it is shown. -/
theorem Shows.drop_part (h : Shows f (.hold v (i + d) :: w)) : Shows (fun n => f (i + n)) (.hold v d :: w) := by
  intro n
  have hlevel := h (i + n)
  simp only [Wave.at, Nat.add_lt_add_iff_left, Nat.add_sub_add_left] at hlevel ⊢
  exact hlevel

/-- A segment of no length shows nothing. -/
theorem Shows.cons_zero (h : Shows f w) (v : Level) : Shows f (.hold v 0 :: w) := fun n => h n

/-- A run moves the waveform on. -/
theorem Elapses.shows {s t : State} (hrun : Elapses i s t) (h : Shows (fun n => s.sensorAt (i + n)) w) :
    Shows t.sensorAt w := fun n => by
  rw [hrun.sensor, ← h]

end Shows

/-! ## The wave of the bits still to come -/

/-- The waveform of the bits still to come and of the tail, when `low` microseconds are left of the present Low. -/
def bitsFrom (p : Params) (low : Nat) : List Bool → Wave Level
  | [] => [.hold .low (p.us low)]
  | bit :: bits => .hold .low (p.us low) :: .hold .high (p.us (nominalBitHighUs bit)) :: bitsFrom p 50 bits

/-- Whole bits before the tail of a frame (R97, R106). -/
theorem bitsFrom_eq (p : Params) (bits : List Bool) :
    bitsFrom p 50 bits = bitsWave p bits ++ [.hold .low (p.us nominalTailUs)] := by
  induction bits with
  | nil => rfl
  | cons bit bits ih => simp [bitsFrom, bitsWave, bitWave, nominalBitLowUs, ih]

/-- A Low stands at the head. -/
theorem bitsFrom_head (p : Params) (low : Nat) (bits : List Bool) :
    ∃ w, bitsFrom p low bits = .hold .low (p.us low) :: w := by
  cases bits <;> exact ⟨_, rfl⟩

/-- Part of the Low goes by. -/
theorem Shows.drop_low {f : Nat → Level} {p : Params} {i low : Nat} {bits : List Bool}
    (h : Shows f (bitsFrom p (i + low) bits)) : Shows (fun n => f (p.us i + n)) (bitsFrom p low bits) := by
  cases bits with
  | nil =>
    rw [bitsFrom, us_add] at h
    exact h.drop_part
  | cons bit bits =>
    rw [bitsFrom, us_add] at h
    exact h.drop_part

theorem frameWave_eq (p : Params) (b0 b1 b2 b3 b4 : Byte) :
    frameWave p b0 b1 b2 b3 b4 = .hold .high (p.us 20) :: .hold .low (p.us 80) :: .hold .high (p.us 80) ::
      bitsFrom p 50 ([b0, b1, b2, b3, b4].flatMap wireBits) := by
  simp [frameWave, bitsFrom_eq, nominalReactionUs, nominalRespLowUs, nominalRespHighUs]

/-! ## Waits on the waveform -/

section Edge
variable {p q : Phase} {l l' : Level} {e : ErrorKind} {s : State} {d d' : Nat} {w : Wave Level}

/-- A wait on a waveform passes where its level ends. -/
theorem BlockStart.plainWait_to_edge (hrow : (p.instr, p, l, e, q) ∈ plainWaits) (h : BlockStart p s)
    (hw : Shows s.sensorAt (.hold l (s.params.us d) :: .hold l' (s.params.us d') :: w)) (hne : l' ≠ l)
    (hd : d ≤ 100) (hd' : 0 < d') :
    ∃ t, Elapses (s.params.us d) s t ∧ BlockStart q t ∧ FrameKept s t ∧
      Shows t.sensorAt (.hold l' (s.params.us d') :: w) := by
  have hoff : s.sensorAt (s.params.us d) = l' := hw.drop.level (i := 0) (by simpa using h.timed.us_strictMono hd')
  obtain ⟨t, hrun, ht, hframe⟩ :=
    h.plainWait_passes hrow hd (fun j hj => hw.level (h.timed.us_strictMono hj)) (hoff ▸ hne)
  exact ⟨t, hrun, ht, hframe, hrun.shows hw.drop⟩

end Edge

/-! ## One bit -/

/-- What a bit has shown 40 microseconds after its leading Low: the sampled level is the bit; a High of 30 microseconds
or none is left of it, and the next Low follows, whole or less 13 microseconds (R97, R98). -/
theorem Shows.bit_sample {f : Nat → Level} {p : Params} {bit : Bool} {bits : List Bool} (hp : TimedParams p)
    (hw : Shows f (.hold .high (p.us (nominalBitHighUs bit)) :: bitsFrom p 50 bits)) :
    Level.bit (f (p.us 40)) = BitVec.ofBool bit ∧ ∃ d low, d ≤ 100 ∧ 0 < low ∧ low ≤ 50 ∧
      Shows (fun n => f (p.us 40 + n)) (.hold .high (p.us d) :: bitsFrom p low bits) := by
  cases bit with
  | false =>
    have hsplit : p.us 40 = p.us 27 + p.us 13 := us_add p 27 13
    have hrest : Shows (fun n => f (p.us 27 + n)) (bitsFrom p 50 bits) := hw.drop
    have hlow : f (p.us 40) = .low := by
      obtain ⟨w, hhead⟩ := bitsFrom_head p 50 bits
      rw [hhead] at hrest
      rw [hsplit]
      exact hrest.level (hp.us_strictMono (by decide))
    refine ⟨by rw [hlow]; rfl, 0, 37, by decide, by decide, by decide, ?_⟩
    rw [us_zero]
    simp only [hsplit, Nat.add_assoc]
    exact (hrest.drop_low (i := 13) (low := 37)).cons_zero _
  | true =>
    have hsplit : p.us (nominalBitHighUs true) = p.us 40 + p.us 30 := us_add p 40 30
    refine ⟨by rw [hw.level (hp.us_strictMono (by decide))]; rfl, 30, 50, by decide, by decide, by decide, ?_⟩
    rw [hsplit] at hw
    exact hw.drop_part

theorem FrameKept.completeBit_congr {s t : State} (h : FrameKept s t) : FrameKept (completeBit s) (completeBit t) :=
  { h with bitidx := by rw [completeBit_bitidx, completeBit_bitidx, h.bitidx] }

/-- One bit of the waveform is stored and counted (R178 to R181). -/
theorem BlockStart.bit_received {s : State} {bit : Bool} {bits : List Bool} {low : Nat} (h : BlockStart .bitLow s)
    (hlow : 0 < low) (hlow' : low ≤ 50) (hw : Shows s.sensorAt (bitsFrom s.params low (bit :: bits))) :
    ∃ i t, Elapses i s t ∧ BlockStart (nextBlock t) t ∧
      FrameKept (completeBit (storeBit (BitVec.ofBool bit) s)) t ∧
      ∃ low', 0 < low' ∧ low' ≤ 50 ∧ Shows t.sensorAt (bitsFrom t.params low' bits) := by
  obtain ⟨t, hst, ht, hframet, hwt⟩ := h.plainWait_to_edge bitLow_row hw (by decide) (by omega)
    (d' := nominalBitHighUs bit) (by cases bit <;> decide)
  rw [← hst.params] at hwt
  obtain ⟨hsample, d, low', hd, hpos, hle, hwu⟩ := hwt.bit_sample ht.timed
  obtain ⟨u, htu, hu, hframeu⟩ := ht.bitDelay_elapses
  have hwu := htu.shows hwu
  rw [← htu.params] at hwu
  obtain ⟨w, hhead⟩ := bitsFrom_head u.params low' bits
  have hoff : u.sensorAt (u.params.us d) = .low := by
    have hrest := hwu.drop
    rw [hhead] at hrest
    exact hrest.level (i := 0) (by simpa using hu.timed.us_strictMono hpos)
  obtain ⟨v, huv, hv, hframev⟩ :=
    hu.bitHigh_passes hd (fun j hj => hwu.level (hu.timed.us_strictMono hj)) (by rw [hoff]; decide)
  rw [hsample] at hframeu
  refine ⟨_, v, (hst.trans htu).trans huv, hv, ?_, low', hpos, hle, ?_⟩
  · exact (((hframet.storeBit_congr _).trans hframeu).completeBit_congr).trans hframev
  · rw [huv.params]
    exact huv.shows hwu.drop

/-! ## The bits of a byte -/

theorem BitsReceived.of_frameKept {i : Nat} {bits : List Bool} {s t u : State} (h : BitsReceived i bits s t)
    (hk : FrameKept t u) : BitsReceived i bits s u where
  count := by rw [hk.bitidx, h.count]
  frame := by rw [hk.fb, h.frame]
  byte := by rw [hk.frameByte_eq, h.byte]
  others j hj := by rw [hk.frameByte_eq, h.others j hj]

/-- Bits that belong to byte `i` are received into it (R96, R180). -/
theorem BlockStart.bits_received {i : Nat} (hi : i < 5) (bits rest : List Bool) {s : State} {low : Nat}
    (h : BlockStart (nextBlock s) s) (hmin : 8 * i ≤ s.bitidx.toNat)
    (hmax : s.bitidx.toNat + bits.length ≤ 8 * i + 8)
    (hlow : 0 < low) (hlow' : low ≤ 50) (hw : Shows s.sensorAt (bitsFrom s.params low (bits ++ rest))) :
    ∃ d t, Elapses d s t ∧ BlockStart (nextBlock t) t ∧ BitsReceived i bits s t ∧
      ∃ low', 0 < low' ∧ low' ≤ 50 ∧ Shows t.sensorAt (bitsFrom t.params low' rest) := by
  induction bits generalizing s low with
  | nil => exact ⟨0, s, .refl h.rst h.issue, h, .refl h.inv.frame i, low, hlow, hlow', hw⟩
  | cons bit bits ih =>
    rw [List.length_cons] at hmax
    have hopen : s.bitidx.toNat < 40 := by omega
    rw [nextBlock_of_lt hopen] at h
    obtain ⟨d, t, hst, ht, hframe, low', hpos, hle, hwt⟩ := h.bit_received hlow hlow' hw
    obtain ⟨x, hx, hbit⟩ := shiftBit_bitsReceived bit hi h.inv.frame (show s.bitidx.toNat / 8 = i by omega)
    rw [shiftBit_of_lt _ hopen] at hx
    cases hx
    have hbit := hbit.of_frameKept hframe
    have hcount : t.bitidx.toNat = s.bitidx.toNat + 1 := hbit.count
    obtain ⟨d', u, htu, hu, hbits, hrest⟩ := ih ht (by omega) (by omega) hpos hle hwt
    exact ⟨d + d', u, hst.trans htu, hu, hbit.trans hbits, hrest⟩

/-! ## The bytes of a frame -/

theorem wireBits_inj {b c : Byte} (h : wireBits b = wireBits c) : b = c := by
  simp only [wireBits_eq, List.cons.injEq, and_true] at h
  obtain ⟨h7, h6, h5, h4, h3, h2, h1, h0⟩ := h
  apply BitVec.eq_of_getLsbD_eq
  intro i hi
  match i, hi with
  | 0, _ | 1, _ | 2, _ | 3, _ | 4, _ | 5, _ | 6, _ | 7, _ => assumption

/-- A whole byte received is the byte sent. -/
theorem BitsReceived.frameByte_eq {i : Nat} {b : Byte} {s t : State} (h : BitsReceived i (wireBits b) s t) :
    t.frameByte i = b := by
  refine wireBits_inj ?_
  rw [h.byte, length_wireBits, List.drop_left' (length_wireBits _)]

/-- Bytes sent from byte `i` of the frame on are received into their places, one after another. -/
theorem BlockStart.bytes_received (bytes : List Byte) {i low : Nat} {s : State} (h : BlockStart (nextBlock s) s)
    (hi : i + bytes.length ≤ 5) (hidx : s.bitidx.toNat = 8 * i) (hlow : 0 < low) (hlow' : low ≤ 50)
    (hw : Shows s.sensorAt (bitsFrom s.params low (bytes.flatMap wireBits))) :
    ∃ d t, Elapses d s t ∧ BlockStart (nextBlock t) t ∧ t.bitidx.toNat = 8 * (i + bytes.length) ∧
      (∀ j, j < i → t.frameByte j = s.frameByte j) ∧ ∀ j b, bytes[j]? = some b → t.frameByte (i + j) = b := by
  induction bytes generalizing i low s with
  | nil => exact ⟨0, s, .refl h.rst h.issue, h, hidx, fun _ _ => rfl, fun j b hb => by simp at hb⟩
  | cons byte bytes ih =>
    rw [List.length_cons] at hi
    rw [List.flatMap_cons] at hw
    obtain ⟨d, t, hst, ht, hbits, low', hpos, hle, hwt⟩ := h.bits_received (i := i) (by omega) (wireBits byte)
      (bytes.flatMap wireBits) (by omega) (by rw [length_wireBits]; omega) hlow hlow' hw
    have hcount : t.bitidx.toNat = 8 * (i + 1) := by
      rw [hbits.count, length_wireBits, hidx]
      omega
    obtain ⟨d', u, htu, hu, hend, hbefore, hbytes⟩ := ih ht (by omega) hcount hpos hle hwt
    refine ⟨d + d', u, hst.trans htu, hu, by rw [hend, List.length_cons]; omega, fun j hj => ?_, fun j b hb => ?_⟩
    · rw [hbefore j (by omega), hbits.others j (by omega)]
    · cases j with
      | zero =>
        rw [List.getElem?_cons_zero, Option.some.injEq] at hb
        rw [Nat.add_zero, hbefore i (by omega), hbits.frameByte_eq, hb]
      | succ j =>
        rw [List.getElem?_cons_succ] at hb
        rw [← hbytes j b hb, Nat.add_assoc, Nat.add_comm 1 j]

/-! ## The whole transaction -/

/-- The nominal frame, from the release instant on, brings its five bytes into the frame buffer (R106, E5). -/
theorem BlockStart.frame_received {s : State} {b0 b1 b2 b3 b4 : Byte} (h : BlockStart .respWait s)
    (hw : Shows s.sensorAt (frameWave s.params b0 b1 b2 b3 b4)) :
    ∃ d t, Elapses d s t ∧ BlockStart .validate t ∧
      ∀ j b, [b0, b1, b2, b3, b4][j]? = some b → t.frameByte j = b := by
  rw [frameWave_eq] at hw
  obtain ⟨t, hst, ht, -, hwt⟩ := h.plainWait_to_edge respWait_row hw (by decide) (by decide) (by decide)
  rw [← hst.params] at hwt
  obtain ⟨u, htu, hu, -, hwu⟩ := ht.plainWait_to_edge respLow_row hwt (by decide) (by decide) (by decide)
  rw [← htu.params] at hwu
  obtain ⟨w, hhead⟩ := bitsFrom_head u.params 50 ([b0, b1, b2, b3, b4].flatMap wireBits)
  rw [hhead] at hwu
  obtain ⟨v, huv, hv, hframe, hwv⟩ := hu.plainWait_to_edge respHigh_row hwu (by decide) (by decide) (by decide)
  rw [← hhead, ← huv.params] at hwv
  have hzero := hu.no_bit_after_handshake hframe
  obtain ⟨d, x, hvx, hx, hcount, -, hbytes⟩ := BlockStart.bytes_received [b0, b1, b2, b3, b4] (i := 0)
    (nextBlock_of_lt (s := v) (by omega) ▸ hv) (Nat.le_refl 5) hzero (by decide) (by decide) hwv
  rw [nextBlock_of_eq hcount] at hx
  exact ⟨_, x, ((hst.trans htu).trans huv).trans hvx, hx, fun j b hb => Nat.zero_add j ▸ hbytes j b hb⟩

/-- Settles O56: after the start signal the frame is received, and its checks pass. -/
theorem nominalFrameIsDelivered : Obligations.NominalFrameIsDelivered := by
  unfold Obligations.NominalFrameIsDelivered
  intro s b0 b1 b2 b3 b4 hinv hp hb hi hr _ hlegal hdoc hends hsensor hsum hprimary hsecondary
  have h : BlockStart .startLow s := ⟨hinv, hp, hb, hi, hr, hlegal, hdoc, hends⟩
  have hwave : Shows s.sensorAt (transactionWave s.params b0 b1 b2 b3 b4) := fun n => by
    rw [State.sensorAt, hsensor]
  obtain ⟨u, hsu, hu⟩ := h.start_elapses
  obtain ⟨d, t, hut, ht, hbytes⟩ := hu.frame_received (hsu.params.symm ▸ hsu.shows hwave.drop)
  have h0 : t.frameByte 0 = b0 := hbytes 0 b0 rfl
  have h1 : t.frameByte 1 = b1 := hbytes 1 b1 rfl
  have h2 : t.frameByte 2 = b2 := hbytes 2 b2 rfl
  have h3 : t.frameByte 3 = b3 := hbytes 3 b3 rfl
  have h4 : t.frameByte 4 = b4 := hbytes 4 b4 rfl
  have hmatches : t.checksum = (t.frameByte 4).toNat := by rw [State.checksum, h0, h1, h2, h3, h4, hsum]
  obtain ⟨-, -, -, hmax, hmax'⟩ := ht.timed.constants
  have hrange : t.outOfRange = false :=
    State.outOfRange_eq_false.mpr ⟨by rw [h0, hmax]; exact hprimary, by rw [h2, hmax']; exact hsecondary⟩
  obtain ⟨k, hk⟩ := ((hsu.trans hut).trans (ht.first_step (exec_pValidate_delivers hmatches hrange))).run
  exact ⟨k, successExit t, hk, rfl, rfl, rfl, rfl, by rw [← h0, ← h1, ← h2, ← h3]; rfl⟩

end Sys2Proof.Machine
end

section
/-! The facade's commands (43_facade.md, R220 to R222, R228): what `S.INITIALIZE` and `S.READ` do in each case, which
command is refused when, and that no command disturbs a busy block. -/

namespace Sys2Proof.Machine

/-! ## The two operations -/

theorem State.busy_eq_true {s : State} : s.busy = true ↔ s.phase ≠ .idle := by
  simp [State.busy]

theorem exec_sInitialize (s : State) :
    exec .sInitialize s =
      if s.busy then .next (refuseCommand s)
      else .next { acceptCommand s with handle := s.arg, initFlag := true } := rfl

theorem exec_sRead (s : State) :
    exec .sRead s = if s.busy || !s.initFlag then .next (refuseCommand s) else startTransaction s := rfl

/-- Settles O15: in `Idle` the block is not busy, so the handle is accepted. -/
theorem initializeStoresHandle : Obligations.InitializeStoresHandle := by
  unfold Obligations.InitializeStoresHandle
  intro s hp
  rw [exec_sInitialize, State.busy_eq_false.mpr hp]
  rfl

/-- Settles O16: in `Idle` with `INIT` set neither reason to refuse holds, so the `START` block is run. -/
theorem readStartsTransaction : Obligations.ReadStartsTransaction := by
  unfold Obligations.ReadStartsTransaction
  intro s hp hinit
  have haccepted : (s.busy || !s.initFlag) = false := by rw [State.busy_eq_false.mpr hp, hinit]; rfl
  rw [exec_sRead, haccepted]
  exact startTransaction_eq s

/-! ## Refusal (R222) -/

theorem exec_sInitialize_of_busy {s : State} (hbusy : s.phase ≠ .idle) :
    exec .sInitialize s = .next (refuseCommand s) := by
  rw [exec_sInitialize, if_pos (State.busy_eq_true.mpr hbusy)]

/-- `S.READ` is refused while the block is busy, and before any `S.INITIALIZE`. -/
theorem exec_sRead_of_not_ready {s : State} (h : s.phase ≠ .idle ∨ s.initFlag = false) :
    exec .sRead s = .next (refuseCommand s) := by
  have hrefused : (s.busy || !s.initFlag) = true := by
    rcases h with hbusy | hinit
    · rw [State.busy_eq_true.mpr hbusy, Bool.true_or]
    · rw [hinit, Bool.not_false, Bool.or_true]
  rw [exec_sRead, if_pos hrefused]

theorem exec_tDelayUs_of_busy {s : State} (hbusy : s.phase ≠ .idle) :
    exec .tDelayUs s = .next (refuseCommand s) := by
  rw [exec_tDelayUs, if_pos (State.busy_eq_true.mpr hbusy)]

/-- Settles O14: one clause per row of R222's table; the timer's two queries are never refused (R131, R132). -/
theorem commandsRefusedWithCmderrAlone : Obligations.CommandsRefusedWithCmderrAlone := by
  unfold Obligations.CommandsRefusedWithCmderrAlone
  refine ⟨fun s => exec_sInitialize_of_busy, fun s => exec_sRead_of_not_ready, fun s => exec_tDelayUs_of_busy,
    fun s => ⟨_, timerStartSnapshotsCounter s, rfl⟩, fun s => ?elapsed, fun s w e hd => ?illegal⟩
  case elapsed =>
    obtain ⟨r, -, hexec⟩ := elapsedDividesWrappedDifference s
    exact ⟨_, hexec, rfl⟩
  case illegal =>
    exact runWord_of_undecoded (fun i hi => by simp [hd] at hi) s

/-! ## A busy block -/

/-- Settles O20: a command word does not stop the machine, and of its outcomes a busy block leaves only the refusal and
the timer's two queries. -/
theorem busyBlockIsUndisturbedByCommands : Obligations.BusyBlockIsUndisturbedByCommands := by
  unfold Obligations.BusyBlockIsUndisturbedByCommands
  intro s w hbusy
  obtain ⟨t, ht⟩ := runWord_command_next w s
  obtain ⟨c, r, rfl⟩ := (commandOutcome_of_runWord ht).of_busy hbusy
  exact ⟨c, r, ht⟩

end Sys2Proof.Machine
end

section
/-! Errors and their detection (60_exceptions.md, R243, R247): what the failure exit writes, and that a checksum byte with
one bit flipped does not match. -/

namespace Sys2Proof.Machine

/-! ## The failure exit (R247) -/

/-- Settles O40: the four updates of the failure exit write these seven fields between them. -/
theorem failureExitWritesResultLineAndPhase : Obligations.FailureExitWritesResultLineAndPhase := by
  unfold Obligations.FailureExitWritesResultLineAndPhase
  intro e s
  rfl

/-! ## A flipped bit (R243) -/

/-- The checksum is a function of the four data bytes alone (R182). -/
theorem State.checksum_congr {s t : State} (h : ∀ j, j < 4 → t.frameByte j = s.frameByte j) :
    t.checksum = s.checksum := by
  rw [State.checksum, State.checksum, h 0 (by decide), h 1 (by decide), h 2 (by decide), h 3 (by decide)]

theorem flipBit_ne {w k : Nat} (hk : k < w) (x : BitVec w) : x ^^^ (1#w <<< k) ≠ x := by
  intro h
  have hbit : (x ^^^ (1#w <<< k)).getLsbD k = !x.getLsbD k := by simp [hk]
  rw [h] at hbit
  exact Bool.self_ne_not _ hbit

/-- Settles O39: the data bytes and so their sum are as before, while byte 4 has changed, so the two differ, and a bad
checksum ends in the failure exit. -/
theorem flippedChecksumBitIsDetected : Obligations.FlippedChecksumBitIsDetected := by
  unfold Obligations.FlippedChecksumBitIsDetected
  intro s s' k hk hsum hdata hflip
  have hbyte : s'.frameByte 4 ≠ s.frameByte 4 := hflip ▸ flipBit_ne hk (s.frameByte 4)
  have hbad : s'.checksum ≠ (s'.frameByte 4).toNat := by
    rw [State.checksum_congr hdata, hsum]
    exact fun h => hbyte (BitVec.eq_of_toNat_eq h.symm)
  exact ⟨_, (validateChecksChecksumBeforeRange s').1 hbad, rfl, rfl, rfl, rfl⟩

end Sys2Proof.Machine
end

section
/-! Reset (70_reset_and_hazards.md, R280, R281): while `rst = 1` no operation is fetched, and the host's turn and the tick
act on a block whose registers have been put at their reset values. -/

namespace Sys2Proof.Machine

variable {s : State}

/-! ## What an instant in reset runs -/

/-- The sequencer executes nothing in reset (R280). -/
theorem State.fetch_inReset (hr : s.inReset = true) : s.fetch = none := by
  simp [State.fetch, hr]

theorem step_inReset (hr : s.inReset = true) : step s = .next (advance s) :=
  step_of_no_fetch (State.fetch_inReset hr)

theorem advance_inReset_beforeHost (hr : s.inReset = true) (hs : s.stage = .beforeHost) :
    advance s = hostTurn (resetRegisters s) := by
  simp [advance, hr, hs]

theorem advance_inReset_afterHost (hr : s.inReset = true) (hs : s.stage = .afterHost) :
    advance s = tick (resetRegisters s) := by
  simp [advance, hr, hs]

/-- In reset the tick moves the input pins on, and the counter and the time stay 0 (R280). -/
theorem tick_resetRegisters (hr : s.inReset = true) :
    tick (resetRegisters s) =
      { resetRegisters s with
        sensor := Wave.later s.sensor, rst := Wave.later s.rst, hrdata := none, stage := .beforeHost } := by
  simp [tick, hr]

/-! ## What it leaves -/

/-- Both parts of an instant in reset leave every register at its reset value: the host's write has no effect, and the
counter does not count. -/
theorem advance_inReset_registers (hr : s.inReset = true) :
    advance s =
      { State.reset with
        params := s.params, sensor := (advance s).sensor, rst := (advance s).rst, hostProg := (advance s).hostProg
        hrdata := (advance s).hrdata, stage := (advance s).stage } := by
  cases hs : s.stage with
  | beforeHost =>
    obtain ⟨d, host, hturn⟩ := hostTurn_inReset (s := resetRegisters s) hr
    rw [advance_inReset_beforeHost hr hs, hturn]
    rfl
  | afterHost =>
    rw [advance_inReset_afterHost hr hs, tick_resetRegisters hr]
    rfl

/-- In reset a read that is answered is answered with 0 (R280). -/
theorem portRead_inReset {access : Option HostAccess} {v : Word} (hr : s.inReset = true)
    (h : portRead s access = some v) : v = 0 := by
  cases access with
  | none => cases h
  | some a =>
    cases a with
    | read idx =>
      simp only [portRead, hr, if_true, Option.some.injEq] at h
      exact h.symm
    | write idx w => cases h

/-- What the host's turn leaves on `h_rdata` is the port's answer. -/
theorem hostTurn_hrdata (s : State) : (hostTurn s).hrdata = portRead s (hostAccess s.hostProg) := rfl

/-- The host's turn in reset answers 0, and after the tick no answer stands. -/
theorem advance_inReset_hrdata {v : Word} (hr : s.inReset = true) (h : (advance s).hrdata = some v) : v = 0 := by
  cases hs : s.stage with
  | beforeHost =>
    rw [advance_inReset_beforeHost hr hs, hostTurn_hrdata] at h
    exact portRead_inReset (s := resetRegisters s) hr h
  | afterHost =>
    rw [advance_inReset_afterHost hr hs, tick_hrdata] at h
    cases h

end Sys2Proof.Machine
end

section
/-! The obligation of 70_reset_and_hazards.md. -/

namespace Sys2Proof.Machine

/-- Settles O42: in reset nothing is fetched, so the step is the host's turn or the tick, and both leave the registers at
reset and no answer but 0. -/
theorem resetPinForcesResetValues : Obligations.ResetPinForcesResetValues := by
  unfold Obligations.ResetPinForcesResetValues
  intro s hr
  exact ⟨advance s, step_inReset hr, advance_inReset_registers hr, fun v => advance_inReset_hrdata hr⟩

end Sys2Proof.Machine
end

section
/-! The placing of a word from outside (30_encoding.md, log 2): a word of any of the three formats, legal or not, is what
the next step fetches. -/

namespace Sys2Proof.Machine

/-! ## The word of a table row -/

/-- A row's bits stand for an operation when they are a code word and that word decodes. -/
theorem decodeTableWord_eq_some {nbits w : Nat} {i : Instr} (h : decodeTableWord nbits w = some i) :
    ∃ c, codeWordOf nbits w = some c ∧ decode c = .ok i := by
  unfold decodeTableWord at h
  split at h
  · rename_i c hc
    split at h
    · rename_i j hd
      cases h
      exact ⟨c, hc, hd⟩
    · cases h
  · cases h

/-! ## What placing writes -/

/-- `s` with the reset pin let go, if it is asserted in this instant. -/
def State.letGoReset (s : State) : State := { s with rst := if s.inReset then [] else s.rst }

theorem State.inReset_letGoReset (s : State) : s.letGoReset.inReset = false := by
  cases hr : s.inReset with
  | true =>
    have hempty : s.letGoReset = { s with rst := [] } := by simp [State.letGoReset, hr]
    rw [hempty]
    rfl
  | false =>
    have hsame : s.letGoReset = s := by simp [State.letGoReset, hr]
    rw [hsame, hr]

/-- A phase's code is placed as `PHASE`, its block not yet begun. -/
theorem withFetchWord_phase {nbits w : Nat} {p : Phase} (hc : codeWordOf nbits w = some (.p p.code)) (s : State) :
    s.withFetchWord nbits w = { gotoPhase p s.letGoReset with issue := none } := by
  simp [State.withFetchWord, placeWord, hc, State.letGoReset]

/-- Every other word is placed as the word issued. -/
theorem withFetchWord_issued {nbits w : Nat} {c : CodeWord} (hc : codeWordOf nbits w = some c)
    (hphase : ∀ p : Phase, c ≠ .p p.code) (s : State) :
    s.withFetchWord nbits w = { s.letGoReset with issue := some c } := by
  cases c with
  | h v | m v => simp [State.withFetchWord, placeWord, hc, State.letGoReset]
  | p v =>
    cases hv : Phase.ofCode v with
    | none => simp [State.withFetchWord, placeWord, hc, hv, State.letGoReset]
    | some p => exact absurd (congrArg CodeWord.p (Phase.code_of_ofCode hv).symm) (hphase p)

/-! ## What is fetched after it -/

/-- The placed word is fetched: a phase's code since its block is enabled, and every other word since it is issued. -/
theorem fetch_withFetchWord {nbits w : Nat} {c : CodeWord} (hc : codeWordOf nbits w = some c) (s : State) :
    (s.withFetchWord nbits w).fetch = some c := by
  by_cases hphase : ∃ p : Phase, c = .p p.code
  · obtain ⟨p, rfl⟩ := hphase
    rw [withFetchWord_phase hc]
    exact State.fetch_of_enabled s.inReset_letGoReset rfl rfl
  · rw [withFetchWord_issued hc (not_exists.mp hphase)]
    exact State.fetch_of_issue s.inReset_letGoReset rfl

/-- Settles O5: the row's bits are a code word that decodes to the operation, and that word is the one fetched. -/
theorem placedWordRunsNext : Obligations.PlacedWordRunsNext := by
  unfold Obligations.PlacedWordRunsNext
  intro s nbits w i h
  obtain ⟨c, hc, hd⟩ := decodeTableWord_eq_some h
  rw [step_of_fetch (fetch_withFetchWord hc s), runWord_of_decode hd]

end Sys2Proof.Machine
end
